-- ==== Sys2Proof/Word.lean ====
section
/-! DEFINITION. The widths of the values the block moves (spec/00_scope.md R8 and R10, spec/10_state.md R42). -/

namespace Sys2Proof

/-- One byte of the image. -/
abbrev Byte := BitVec 8

/-- A descriptor word, a configuration register, a 32-bit virtual or physical address. -/
abbrev Word := BitVec 32

/-- The scan counter and every size: 33 bits, so that 2^32 is a value (R10, R33). -/
abbrev Wide := BitVec 33

/-- An output physical address: 40 bits, because of the supersection (R10, R110). -/
abbrev PAddr := BitVec 40

/-- The physical-minus-virtual offset: 41 bits, read as two's complement (R40, R231). -/
abbrev Offset := BitVec 41

end Sys2Proof
end

