-- ==== Sys2Proof/Config.lean ====
section
/-! DEFINITION. What the spec leaves to the platform and the model does not hold in State (spec/00_scope.md R7).

IMG_BASE, IMG_LEN, the image and the TTBR pair are state. NCPU and HOST_CONTINUE_AFTER_ERROR are arguments of the
host script of Machine/HostPort.lean. -/

namespace Sys2Proof.Config

/-- XN_MARKER (R7): the fixed text a host prints for an execute-never range. The spec does not give it
(spec/91_not_in_source.md N9), so nothing can be proved of its value. -/
opaque xnMarker : String

/-- Whether the optional range coalescer (R4) stands behind the walker at power-on. DESIGN CHOICE, log entry 3:
the flag itself is a field of State and every meaning covers both values. -/
def coalescerAtPowerOn : Bool := true

end Sys2Proof.Config
end

