-- ==== Sys2Proof/Syntax.lean ====
section
/-! DEFINITION. The instructions: one constructor per row of spec/opcode_table.json.

The spec's mapping (spec/00_scope.md R2) makes a fetched descriptor, an attribute value and the START command the
instructions of this block. A format's fields are named as spec/30_encoding.md names them; a bit the spec calls
ignored is kept, under its position, so that no bit of an encoding is lost. -/

namespace Sys2Proof

/-- The six formats of spec/opcode_table.json: what a word means depends on where it was found (R90). -/
inductive Format where
  /-- A first-level descriptor, 32 bits. -/
  | L1
  /-- A second-level descriptor, 32 bits. -/
  | L2
  /-- An access-permission value, 3 bits. -/
  | AP3
  /-- A cache-attribute value, 5 bits. -/
  | TEXCB5
  /-- A cacheability value, 2 bits. -/
  | CACHE2
  /-- An execute-never value, 1 bit. -/
  | XN1
  /-- A host write to CTRL, 32 bits. -/
  | CTRL
deriving DecidableEq, Repr

/-- The format of a Page Table descriptor (R94); the type bits [1:0] are 01. -/
structure PageTableFields where
  /-- TABLE_BASE, bits [31:10]. -/
  tableBase : BitVec 22
  /-- Bit 9, ignored. -/
  bit9 : BitVec 1
  /-- DOMAIN, bits [8:5]. -/
  domain : BitVec 4
  /-- SBZ, bits [4:2]. -/
  sbz : BitVec 3
deriving DecidableEq, Repr

/-- The format of a Section (R95); bit 18 is 0 and the type bits are 10. -/
structure SectionFields where
  /-- SEC_BASE, bits [31:20]. -/
  base : BitVec 12
  /-- Bit 19, ignored. -/
  bit19 : BitVec 1
  /-- Bits [17:16], ignored. -/
  bits17 : BitVec 2
  /-- APX, bit 15. -/
  apx : BitVec 1
  /-- TEX, bits [14:12]. -/
  tex : BitVec 3
  /-- AP[1:0], bits [11:10]. -/
  apLo : BitVec 2
  /-- Bits [9:5], ignored. -/
  bits9 : BitVec 5
  /-- XN, bit 4. -/
  xn : BitVec 1
  /-- C and B, bits [3:2]. -/
  cb : BitVec 2
deriving DecidableEq, Repr

/-- The format of a Supersection (R96); bit 18 is 1 and the type bits are 10. -/
structure SupersectionFields where
  /-- SSEC_BASE, bits [31:24]. -/
  base : BitVec 8
  /-- EXT1, bits [23:20]. -/
  ext1 : BitVec 4
  /-- Bit 19, ignored. -/
  bit19 : BitVec 1
  /-- Bits [17:16], ignored. -/
  bits17 : BitVec 2
  /-- APX, bit 15. -/
  apx : BitVec 1
  /-- TEX, bits [14:12]. -/
  tex : BitVec 3
  /-- AP[1:0], bits [11:10]. -/
  apLo : BitVec 2
  /-- Bit 9, ignored. -/
  bit9 : BitVec 1
  /-- EXT2, bits [8:5]. -/
  ext2 : BitVec 4
  /-- XN, bit 4. -/
  xn : BitVec 1
  /-- C and B, bits [3:2]. -/
  cb : BitVec 2
deriving DecidableEq, Repr

/-- The format of a Large Page (R100); the type bits are 01. -/
structure LargePageFields where
  /-- LP_BASE, bits [31:16]. -/
  base : BitVec 16
  /-- XN, bit 15. -/
  xn : BitVec 1
  /-- TEX, bits [14:12]. -/
  tex : BitVec 3
  /-- Bits [11:10], ignored. -/
  bits11 : BitVec 2
  /-- APX, bit 9. -/
  apx : BitVec 1
  /-- Bits [8:6], ignored. -/
  bits8 : BitVec 3
  /-- AP[1:0], bits [5:4]. -/
  apLo : BitVec 2
  /-- C and B, bits [3:2]. -/
  cb : BitVec 2
deriving DecidableEq, Repr

/-- The format of a Small Page (R101); bit 1 is 1. -/
structure SmallPageFields where
  /-- SP_BASE, bits [31:12]. -/
  base : BitVec 20
  /-- Bits [11:10], ignored. -/
  bits11 : BitVec 2
  /-- APX, bit 9. -/
  apx : BitVec 1
  /-- TEX, bits [8:6]. -/
  tex : BitVec 3
  /-- AP[1:0], bits [5:4]. -/
  apLo : BitVec 2
  /-- C and B, bits [3:2]. -/
  cb : BitVec 2
  /-- XN, bit 0. -/
  xn : BitVec 1
deriving DecidableEq, Repr

/-- One constructor per row of spec/opcode_table.json, in the table's order. -/
inductive Instr where
  /-- L1_FAULT (R93, R170); bits [31:2] are ignored. -/
  | l1Fault (rest : BitVec 30)
  /-- L1_PAGE_TABLE (R94, R171): bits [4:2] are zero. -/
  | l1PageTable (f : PageTableFields)
  /-- L1_PAGE_TABLE.malformed_bit2 (R172): bit 2 set, bits 3 and 4 any. -/
  | l1PageTableMalformedBit2 (f : PageTableFields)
  /-- L1_PAGE_TABLE.malformed_bit3 (R172): bit 3 set, bit 2 clear, bit 4 any. -/
  | l1PageTableMalformedBit3 (f : PageTableFields)
  /-- L1_PAGE_TABLE.malformed_bit4 (R172): bit 4 set, bits 3 and 2 clear. -/
  | l1PageTableMalformedBit4 (f : PageTableFields)
  /-- L1_SECTION (R95, R173). -/
  | l1Section (f : SectionFields)
  /-- L1_SUPERSECTION (R96, R174). -/
  | l1Supersection (f : SupersectionFields)
  /-- L1_RESERVED (R97, R175); bits [31:2] are ignored. -/
  | l1Reserved (rest : BitVec 30)
  /-- L2_FAULT (R99, R190); bits [31:2] are ignored. -/
  | l2Fault (rest : BitVec 30)
  /-- L2_LARGE_PAGE (R100, R191). -/
  | l2LargePage (f : LargePageFields)
  /-- L2_SMALL_PAGE (R101, R192). -/
  | l2SmallPage (f : SmallPageFields)
  /-- AP_000.reserved (R105, R211). -/
  | ap000Reserved
  /-- AP_001 (R105, R210). -/
  | ap001
  /-- AP_010.reserved (R105, R211). -/
  | ap010Reserved
  /-- AP_011 (R105, R210). -/
  | ap011
  /-- AP_100.reserved (R105, R211). -/
  | ap100Reserved
  /-- AP_101 (R105, R210). -/
  | ap101
  /-- AP_110.reserved (R105, R211). -/
  | ap110Reserved
  /-- AP_111.reserved (R105, R211). -/
  | ap111Reserved
  /-- TEXCB_STRONGLY_ORDERED (R106, R212). -/
  | texcbStronglyOrdered
  /-- TEXCB_DEVICE (R106, R212). -/
  | texcbDevice
  /-- TEXCB_CACHED (R106, R212): outer = bits [3:2], inner = bits [1:0]. -/
  | texcbCached (outer inner : BitVec 2)
  /-- TEXCB_RESERVED_02_03 (R213): the value, 2 or 3. -/
  | texcbReserved02 (t : BitVec 5)
  /-- TEXCB_RESERVED_04_07 (R213): the value, 4 to 7. -/
  | texcbReserved04 (t : BitVec 5)
  /-- TEXCB_RESERVED_08_0F (R213): the value, 8 to 15. -/
  | texcbReserved08 (t : BitVec 5)
  /-- CACHE_00 (R107, R214). -/
  | cache00
  /-- CACHE_01 (R107, R214). -/
  | cache01
  /-- CACHE_10 (R107, R214). -/
  | cache10
  /-- CACHE_11 (R107, R214). -/
  | cache11
  /-- XN_0 (R108, R215). -/
  | xn0
  /-- XN_1 (R108, R215). -/
  | xn1
  /-- START (R27, R130); bits [31:1] of the word written to CTRL are reserved and ignored. -/
  | start (reserved : BitVec 31)
deriving DecidableEq, Repr

/-- An encoded instruction: the bits, with the format they were found in (R90). -/
inductive Encoded where
  /-- A first-level descriptor word. -/
  | l1 (w : Word)
  /-- A second-level descriptor word. -/
  | l2 (w : Word)
  /-- An access-permission value. -/
  | ap (v : BitVec 3)
  /-- A cache-attribute value. -/
  | texcb (v : BitVec 5)
  /-- A cacheability value. -/
  | cache (v : BitVec 2)
  /-- An execute-never value. -/
  | xn (v : BitVec 1)
  /-- The word a host writes to CTRL. -/
  | ctrl (w : Word)
deriving DecidableEq, Repr

end Sys2Proof
end

