-- ==== Sys2Proof/WellFormed.lean ====
section
/-! DEFINITION. Which terms of Instr stand for an encoding.

The types fix every width; what is left to check is the should-be-zero field of a Page Table descriptor, whose
value selects among four rows of the table (spec/30_encoding.md R94, spec/41_l1_descriptors.md R172), and the value
of a reserved cache attribute, which selects among three (spec/43_attribute_decoders.md R213). -/

namespace Sys2Proof

/-- The instruction is one that an encoding of its own row stands for. -/
def Instr.wf : Instr → Bool
  | .l1PageTable f => f.sbz == 0
  | .l1PageTableMalformedBit2 f => f.sbz.getLsbD 0
  | .l1PageTableMalformedBit3 f => !f.sbz.getLsbD 0 && f.sbz.getLsbD 1
  | .l1PageTableMalformedBit4 f => !f.sbz.getLsbD 0 && !f.sbz.getLsbD 1 && f.sbz.getLsbD 2
  | .texcbReserved02 t => t.extractLsb' 1 4 == 1
  | .texcbReserved04 t => t.extractLsb' 2 3 == 1
  | .texcbReserved08 t => t.extractLsb' 3 2 == 1
  | .l1Fault _ | .l1Section _ | .l1Supersection _ | .l1Reserved _ | .l2Fault _ | .l2LargePage _ | .l2SmallPage _
  | .ap000Reserved | .ap001 | .ap010Reserved | .ap011 | .ap100Reserved | .ap101 | .ap110Reserved | .ap111Reserved
  | .texcbStronglyOrdered | .texcbDevice | .texcbCached _ _ | .cache00 | .cache01 | .cache10 | .cache11
  | .xn0 | .xn1 | .start _ => true

end Sys2Proof
end

