-- ==== Sys2Proof/Decode.lean ====
section
/-! DEFINITION. The decoder, from spec/30_encoding.md R92 to R108 and spec/10_state.md R27, and after it the encoder,
from the same formats and from the constructors of R116.

Decoding is total: every 32-bit word has exactly one first-level and one second-level class (R91), every attribute
value its row (R105 to R108). What is no instruction is rejected by name: a CTRL write with bit 0 clear (R27), a
byte that is wider than its format, a word cut short. -/

namespace Sys2Proof

/-- Why bits are no instruction. -/
inductive DecodeError where
  /-- A word written to CTRL with bit 0 clear gives no command (R27). -/
  | noCommand
  /-- A byte holding an attribute value has a bit set above the value's width (R105 to R108). -/
  | valueTooWide (f : Format)
  /-- Fewer bytes than the format needs (R90). -/
  | truncated (f : Format)
deriving DecidableEq, Repr

/-! ## Fields -/

/-- The fields of a Page Table descriptor (R94). -/
def pageTableFieldsOf (d : Word) : PageTableFields :=
  { tableBase := d.extractLsb' 10 22, bit9 := d.extractLsb' 9 1, domain := d.extractLsb' 5 4, sbz := d.extractLsb' 2 3 }

/-- The fields of a Section (R95). -/
def sectionFieldsOf (d : Word) : SectionFields :=
  { base := d.extractLsb' 20 12, bit19 := d.extractLsb' 19 1, bits17 := d.extractLsb' 16 2, apx := d.extractLsb' 15 1,
    tex := d.extractLsb' 12 3, apLo := d.extractLsb' 10 2, bits9 := d.extractLsb' 5 5, xn := d.extractLsb' 4 1,
    cb := d.extractLsb' 2 2 }

/-- The fields of a Supersection (R96). -/
def supersectionFieldsOf (d : Word) : SupersectionFields :=
  { base := d.extractLsb' 24 8, ext1 := d.extractLsb' 20 4, bit19 := d.extractLsb' 19 1, bits17 := d.extractLsb' 16 2,
    apx := d.extractLsb' 15 1, tex := d.extractLsb' 12 3, apLo := d.extractLsb' 10 2, bit9 := d.extractLsb' 9 1,
    ext2 := d.extractLsb' 5 4, xn := d.extractLsb' 4 1, cb := d.extractLsb' 2 2 }

/-- The fields of a Large Page (R100). -/
def largePageFieldsOf (d : Word) : LargePageFields :=
  { base := d.extractLsb' 16 16, xn := d.extractLsb' 15 1, tex := d.extractLsb' 12 3, bits11 := d.extractLsb' 10 2,
    apx := d.extractLsb' 9 1, bits8 := d.extractLsb' 6 3, apLo := d.extractLsb' 4 2, cb := d.extractLsb' 2 2 }

/-- The fields of a Small Page (R101). -/
def smallPageFieldsOf (d : Word) : SmallPageFields :=
  { base := d.extractLsb' 12 20, bits11 := d.extractLsb' 10 2, apx := d.extractLsb' 9 1, tex := d.extractLsb' 6 3,
    apLo := d.extractLsb' 4 2, cb := d.extractLsb' 2 2, xn := d.extractLsb' 0 1 }

/-! ## The decoder, format by format -/

/-- A Page Table descriptor: well formed, or malformed by its lowest should-be-zero bit (R94, R171, R172). -/
def decodePageTable (f : PageTableFields) : Instr :=
  if f.sbz.getLsbD 0 then .l1PageTableMalformedBit2 f
  else if f.sbz.getLsbD 1 then .l1PageTableMalformedBit3 f
  else if f.sbz.getLsbD 2 then .l1PageTableMalformedBit4 f
  else .l1PageTable f

/-- A first-level descriptor (R92). -/
def decodeL1 (d : Word) : Instr :=
  if d.extractLsb' 0 2 = 0 then .l1Fault (d.extractLsb' 2 30)
  else if d.extractLsb' 0 2 = 1 then decodePageTable (pageTableFieldsOf d)
  else if d.extractLsb' 0 2 = 2 then
    if d.getLsbD 18 then .l1Supersection (supersectionFieldsOf d) else .l1Section (sectionFieldsOf d)
  else .l1Reserved (d.extractLsb' 2 30)

/-- A second-level descriptor (R98): a Small Page is recognised by bit 1 alone. -/
def decodeL2 (d : Word) : Instr :=
  if d.getLsbD 1 then .l2SmallPage (smallPageFieldsOf d)
  else if d.getLsbD 0 then .l2LargePage (largePageFieldsOf d)
  else .l2Fault (d.extractLsb' 2 30)

/-- An access-permission value (R105). -/
def decodeAP3 (v : BitVec 3) : Instr :=
  if v = 0 then .ap000Reserved
  else if v = 1 then .ap001
  else if v = 2 then .ap010Reserved
  else if v = 3 then .ap011
  else if v = 4 then .ap100Reserved
  else if v = 5 then .ap101
  else if v = 6 then .ap110Reserved
  else .ap111Reserved

/-- A cache-attribute value (R106, R212, R213). -/
def decodeTEXCB5 (t : BitVec 5) : Instr :=
  if t.getLsbD 4 then .texcbCached (t.extractLsb' 2 2) (t.extractLsb' 0 2)
  else if t = 1 then .texcbDevice
  else if t = 0 then .texcbStronglyOrdered
  else if t.getLsbD 3 then .texcbReserved08 t
  else if t.getLsbD 2 then .texcbReserved04 t
  else .texcbReserved02 t

/-- A cacheability value (R107). -/
def decodeCACHE2 (c : BitVec 2) : Instr :=
  if c = 0 then .cache00 else if c = 1 then .cache01 else if c = 2 then .cache10 else .cache11

/-- An execute-never value (R108). -/
def decodeXN1 (v : BitVec 1) : Instr :=
  if v = 0 then .xn0 else .xn1

/-- A word written to CTRL (R27): bit 0 is the command, the other bits are reserved and ignored. -/
def decodeCTRL (w : Word) : Except DecodeError Instr :=
  if w.getLsbD 0 then .ok (.start (w.extractLsb' 1 31)) else .error .noCommand

/-- The decoder: a word in its format (R90). -/
def decode : Encoded → Except DecodeError Instr
  | .l1 w => .ok (decodeL1 w)
  | .l2 w => .ok (decodeL2 w)
  | .ap v => .ok (decodeAP3 v)
  | .texcb v => .ok (decodeTEXCB5 v)
  | .cache v => .ok (decodeCACHE2 v)
  | .xn v => .ok (decodeXN1 v)
  | .ctrl w => decodeCTRL w

/-! ## Bytes -/

/-- Four bytes as a little-endian word: the byte at the lowest address is bits [7:0] (R62). -/
def wordOfBytes (b0 b1 b2 b3 : Byte) : Word :=
  b0.setWidth 32 ||| b1.setWidth 32 <<< 8 ||| b2.setWidth 32 <<< 16 ||| b3.setWidth 32 <<< 24

/-- The bytes of a word, lowest address first (R62). -/
def bytesOfWord (w : Word) : List Byte :=
  [w.extractLsb' 0 8, w.extractLsb' 8 8, w.extractLsb' 16 8, w.extractLsb' 24 8]

/-- An attribute value held in one byte, if no bit stands above its width. -/
def encodedOfByte (f : Format) (b : Byte) : Except DecodeError Encoded :=
  match f with
  | .AP3 => if b.toNat < 8 then .ok (.ap (b.extractLsb' 0 3)) else .error (.valueTooWide .AP3)
  | .TEXCB5 => if b.toNat < 32 then .ok (.texcb (b.extractLsb' 0 5)) else .error (.valueTooWide .TEXCB5)
  | .CACHE2 => if b.toNat < 4 then .ok (.cache (b.extractLsb' 0 2)) else .error (.valueTooWide .CACHE2)
  | .XN1 => if b.toNat < 2 then .ok (.xn (b.extractLsb' 0 1)) else .error (.valueTooWide .XN1)
  | .L1 => .error (.truncated .L1)
  | .L2 => .error (.truncated .L2)
  | .CTRL => .error (.truncated .CTRL)

/-- The encoded instruction at the head of a list of bytes, with the bytes that follow it. -/
def encodedOfBytes (f : Format) (bs : List Byte) : Except DecodeError (Encoded × List Byte) :=
  match f, bs with
  | .L1, b0 :: b1 :: b2 :: b3 :: rest => .ok (.l1 (wordOfBytes b0 b1 b2 b3), rest)
  | .L2, b0 :: b1 :: b2 :: b3 :: rest => .ok (.l2 (wordOfBytes b0 b1 b2 b3), rest)
  | .CTRL, b0 :: b1 :: b2 :: b3 :: rest => .ok (.ctrl (wordOfBytes b0 b1 b2 b3), rest)
  | .AP3, b :: rest => (encodedOfByte .AP3 b).map (·, rest)
  | .TEXCB5, b :: rest => (encodedOfByte .TEXCB5 b).map (·, rest)
  | .CACHE2, b :: rest => (encodedOfByte .CACHE2 b).map (·, rest)
  | .XN1, b :: rest => (encodedOfByte .XN1 b).map (·, rest)
  | f, _ => .error (.truncated f)

/-- The decoder on bytes: total on any list, rejecting by name. -/
def decodeBytes (f : Format) (bs : List Byte) : Except DecodeError (Instr × List Byte) :=
  match encodedOfBytes f bs with
  | .error e => .error e
  | .ok (e, rest) =>
    match decode e with
    | .error err => .error err
    | .ok i => .ok (i, rest)

/-! ## The encoder (R94 to R101 bit by bit, R116) -/

/-- The word of a Page Table descriptor (R94). -/
def pageTableWord (f : PageTableFields) : Word :=
  f.tableBase.setWidth 32 <<< 10 ||| f.bit9.setWidth 32 <<< 9 ||| f.domain.setWidth 32 <<< 5
    ||| f.sbz.setWidth 32 <<< 2 ||| 1#32

/-- The word of a Section (R95). -/
def sectionWord (f : SectionFields) : Word :=
  f.base.setWidth 32 <<< 20 ||| f.bit19.setWidth 32 <<< 19 ||| f.bits17.setWidth 32 <<< 16
    ||| f.apx.setWidth 32 <<< 15 ||| f.tex.setWidth 32 <<< 12 ||| f.apLo.setWidth 32 <<< 10
    ||| f.bits9.setWidth 32 <<< 5 ||| f.xn.setWidth 32 <<< 4 ||| f.cb.setWidth 32 <<< 2 ||| 2#32

/-- The word of a Supersection (R96). -/
def supersectionWord (f : SupersectionFields) : Word :=
  f.base.setWidth 32 <<< 24 ||| f.ext1.setWidth 32 <<< 20 ||| f.bit19.setWidth 32 <<< 19
    ||| 1#32 <<< 18 ||| f.bits17.setWidth 32 <<< 16 ||| f.apx.setWidth 32 <<< 15 ||| f.tex.setWidth 32 <<< 12
    ||| f.apLo.setWidth 32 <<< 10 ||| f.bit9.setWidth 32 <<< 9 ||| f.ext2.setWidth 32 <<< 5
    ||| f.xn.setWidth 32 <<< 4 ||| f.cb.setWidth 32 <<< 2 ||| 2#32

/-- The word of a Large Page (R100). -/
def largePageWord (f : LargePageFields) : Word :=
  f.base.setWidth 32 <<< 16 ||| f.xn.setWidth 32 <<< 15 ||| f.tex.setWidth 32 <<< 12
    ||| f.bits11.setWidth 32 <<< 10 ||| f.apx.setWidth 32 <<< 9 ||| f.bits8.setWidth 32 <<< 6
    ||| f.apLo.setWidth 32 <<< 4 ||| f.cb.setWidth 32 <<< 2 ||| 1#32

/-- The word of a Small Page (R101). -/
def smallPageWord (f : SmallPageFields) : Word :=
  f.base.setWidth 32 <<< 12 ||| f.bits11.setWidth 32 <<< 10 ||| f.apx.setWidth 32 <<< 9
    ||| f.tex.setWidth 32 <<< 6 ||| f.apLo.setWidth 32 <<< 4 ||| f.cb.setWidth 32 <<< 2 ||| 2#32
    ||| f.xn.setWidth 32

/-- A word of a class that ignores bits [31:2] (R93, R97, R99). -/
def restWord (rest : BitVec 30) (type : BitVec 2) : Word :=
  rest.setWidth 32 <<< 2 ||| type.setWidth 32

/-- The encoder: the bits an instruction stands for, in its format. -/
def encode : Instr → Encoded
  | .l1Fault rest => .l1 (restWord rest 0)
  | .l1PageTable f => .l1 (pageTableWord f)
  | .l1PageTableMalformedBit2 f => .l1 (pageTableWord f)
  | .l1PageTableMalformedBit3 f => .l1 (pageTableWord f)
  | .l1PageTableMalformedBit4 f => .l1 (pageTableWord f)
  | .l1Section f => .l1 (sectionWord f)
  | .l1Supersection f => .l1 (supersectionWord f)
  | .l1Reserved rest => .l1 (restWord rest 3)
  | .l2Fault rest => .l2 (restWord rest 0)
  | .l2LargePage f => .l2 (largePageWord f)
  | .l2SmallPage f => .l2 (smallPageWord f)
  | .ap000Reserved => .ap 0
  | .ap001 => .ap 1
  | .ap010Reserved => .ap 2
  | .ap011 => .ap 3
  | .ap100Reserved => .ap 4
  | .ap101 => .ap 5
  | .ap110Reserved => .ap 6
  | .ap111Reserved => .ap 7
  | .texcbStronglyOrdered => .texcb 0
  | .texcbDevice => .texcb 1
  | .texcbCached outer inner => .texcb (1#5 <<< 4 ||| outer.setWidth 5 <<< 2 ||| inner.setWidth 5)
  | .texcbReserved02 t => .texcb t
  | .texcbReserved04 t => .texcb t
  | .texcbReserved08 t => .texcb t
  | .cache00 => .cache 0
  | .cache01 => .cache 1
  | .cache10 => .cache 2
  | .cache11 => .cache 3
  | .xn0 => .xn 0
  | .xn1 => .xn 1
  | .start reserved => .ctrl (reserved.setWidth 32 <<< 1 ||| 1#32)

/-- The format an encoded instruction is in. -/
def Encoded.format : Encoded → Format
  | .l1 _ => .L1
  | .l2 _ => .L2
  | .ap _ => .AP3
  | .texcb _ => .TEXCB5
  | .cache _ => .CACHE2
  | .xn _ => .XN1
  | .ctrl _ => .CTRL

/-- The bits of an encoded instruction, bit 0 the least significant (R8). -/
def Encoded.bits : Encoded → Word
  | .l1 w => w
  | .l2 w => w
  | .ap v => v.setWidth 32
  | .texcb v => v.setWidth 32
  | .cache v => v.setWidth 32
  | .xn v => v.setWidth 32
  | .ctrl w => w

/-- The bytes of an encoded instruction, lowest address first; an attribute value stands in one byte. -/
def Encoded.bytes : Encoded → List Byte
  | .l1 w => bytesOfWord w
  | .l2 w => bytesOfWord w
  | .ctrl w => bytesOfWord w
  | .ap v => [v.setWidth 8]
  | .texcb v => [v.setWidth 8]
  | .cache v => [v.setWidth 8]
  | .xn v => [v.setWidth 8]

/-! ## The opcode table -/

/-- A row of spec/opcode_table.json: a word is the row's when its bits under the mask are the pattern. -/
structure Row where
  mnemonic : String
  format : Format
  mask : Word
  pattern : Word
deriving DecidableEq, Repr

/-- An encoded instruction is in a row. -/
def Row.accepts (r : Row) (e : Encoded) : Bool :=
  r.format == e.format && (e.bits &&& r.mask) == r.pattern

/-- The row an instruction stands for, copied from spec/opcode_table.json. -/
def Instr.row : Instr → Row
  | .l1Fault _ => ⟨"L1_FAULT", .L1, 0x3, 0x0⟩
  | .l1PageTable _ => ⟨"L1_PAGE_TABLE", .L1, 0x1F, 0x1⟩
  | .l1PageTableMalformedBit2 _ => ⟨"L1_PAGE_TABLE.malformed_bit2", .L1, 0x7, 0x5⟩
  | .l1PageTableMalformedBit3 _ => ⟨"L1_PAGE_TABLE.malformed_bit3", .L1, 0xF, 0x9⟩
  | .l1PageTableMalformedBit4 _ => ⟨"L1_PAGE_TABLE.malformed_bit4", .L1, 0x1F, 0x11⟩
  | .l1Section _ => ⟨"L1_SECTION", .L1, 0x40003, 0x2⟩
  | .l1Supersection _ => ⟨"L1_SUPERSECTION", .L1, 0x40003, 0x40002⟩
  | .l1Reserved _ => ⟨"L1_RESERVED", .L1, 0x3, 0x3⟩
  | .l2Fault _ => ⟨"L2_FAULT", .L2, 0x3, 0x0⟩
  | .l2LargePage _ => ⟨"L2_LARGE_PAGE", .L2, 0x3, 0x1⟩
  | .l2SmallPage _ => ⟨"L2_SMALL_PAGE", .L2, 0x2, 0x2⟩
  | .ap000Reserved => ⟨"AP_000.reserved", .AP3, 0x7, 0x0⟩
  | .ap001 => ⟨"AP_001", .AP3, 0x7, 0x1⟩
  | .ap010Reserved => ⟨"AP_010.reserved", .AP3, 0x7, 0x2⟩
  | .ap011 => ⟨"AP_011", .AP3, 0x7, 0x3⟩
  | .ap100Reserved => ⟨"AP_100.reserved", .AP3, 0x7, 0x4⟩
  | .ap101 => ⟨"AP_101", .AP3, 0x7, 0x5⟩
  | .ap110Reserved => ⟨"AP_110.reserved", .AP3, 0x7, 0x6⟩
  | .ap111Reserved => ⟨"AP_111.reserved", .AP3, 0x7, 0x7⟩
  | .texcbStronglyOrdered => ⟨"TEXCB_STRONGLY_ORDERED", .TEXCB5, 0x1F, 0x0⟩
  | .texcbDevice => ⟨"TEXCB_DEVICE", .TEXCB5, 0x1F, 0x1⟩
  | .texcbCached _ _ => ⟨"TEXCB_CACHED", .TEXCB5, 0x10, 0x10⟩
  | .texcbReserved02 _ => ⟨"TEXCB_RESERVED_02_03", .TEXCB5, 0x1E, 0x2⟩
  | .texcbReserved04 _ => ⟨"TEXCB_RESERVED_04_07", .TEXCB5, 0x1C, 0x4⟩
  | .texcbReserved08 _ => ⟨"TEXCB_RESERVED_08_0F", .TEXCB5, 0x18, 0x8⟩
  | .cache00 => ⟨"CACHE_00", .CACHE2, 0x3, 0x0⟩
  | .cache01 => ⟨"CACHE_01", .CACHE2, 0x3, 0x1⟩
  | .cache10 => ⟨"CACHE_10", .CACHE2, 0x3, 0x2⟩
  | .cache11 => ⟨"CACHE_11", .CACHE2, 0x3, 0x3⟩
  | .xn0 => ⟨"XN_0", .XN1, 0x1, 0x0⟩
  | .xn1 => ⟨"XN_1", .XN1, 0x1, 0x1⟩
  | .start _ => ⟨"START", .CTRL, 0x1, 0x1⟩

/-! ## What the host asks of the decoder -/

/-- The format a bare table word is read in. The table's word does not say in which format it was found (R90), so
one reading is fixed (DESIGN CHOICE, log entry 15): a 32-bit word is a first-level descriptor; a shorter value is
read by its width when that is given, and otherwise as an access permission when it fits in 3 bits and as a cache
attribute when it does not. -/
def tableFormat (nbits w : Nat) : Option Format :=
  if nbits = 32 then some .L1
  else if nbits = 1 then some .XN1
  else if nbits = 2 then some .CACHE2
  else if nbits = 3 then some .AP3
  else if nbits = 5 then some .TEXCB5
  else if nbits = 8 then (if w < 8 then some .AP3 else some .TEXCB5)
  else none

/-- The bytes of a bare table word, as the hardware stores them (R62). -/
def tableBytes (nbits w : Nat) : List Byte :=
  if nbits = 32 then bytesOfWord (BitVec.ofNat 32 w) else [BitVec.ofNat 8 w]

/-- The instruction the decoder reads from a bare table word. -/
def decodeTableWord (nbits w : Nat) : Option Instr :=
  match tableFormat nbits w with
  | none => none
  | some f =>
    match decodeBytes f (tableBytes nbits w) with
    | .ok (i, _) => some i
    | .error _ => none

end Sys2Proof
end

