-- ==== Sys2Proof/Machine/State.lean ====
section
/-! DEFINITION. The state of the block and of what stands around it, as plain data (spec/10_state.md), with its value
after reset (R44) and the reasons a step can stop. -/

namespace Sys2Proof.Machine

/-! ## Records and labels -/

/-- A cacheability policy (spec/30_encoding.md R107). -/
inductive Policy where
  | nonCacheable
  | writeBackWriteAllocate
  | writeThroughNoWriteAllocate
  | writeBackNoWriteAllocate
deriving DecidableEq, Repr

/-- A decoded cache attribute (R106): one of 18. -/
inductive CacheLabel where
  | stronglyOrdered
  | device
  | cached (outer inner : Policy)
deriving DecidableEq, Repr

/-- A decoded access permission (R105): one of 3. -/
inductive AccessLabel where
  | privilegedReadWrite
  | privilegedReadOnly
  | readWrite
deriving DecidableEq, Repr

/-- A Mapping Entry (R110); the constant granularity 1024 is not stored. -/
structure MappingEntry where
  virtualAddress : Word
  physicalAddress : PAddr
  accessPermission : BitVec 3
  cacheAttrs : BitVec 5
  executeNever : BitVec 1
deriving DecidableEq, Repr

/-- An item of the walker's output stream (R111). -/
inductive StreamItem where
  | entry (e : MappingEntry)
  | endOfPass (tbl : BitVec 1)
deriving DecidableEq, Repr

/-- A Merged Range (R112); both ends are exclusive. -/
structure MergedRange where
  virtualStart : Word
  virtualEnd : Wide
  physicalStart : PAddr
  physicalEnd : BitVec 41
  /-- Two's complement. -/
  physicalOffset : Offset
  decodedCacheAttr : CacheLabel
  decodedAccess : AccessLabel
  decodedExecuteFlag : Bool
deriving DecidableEq, Repr

/-! ## Registers -/

/-- The configuration registers (spec/10_state.md R22 to R26); the snapshot of R39 has the same form. -/
structure ConfigRegs where
  ttbr0 : Word
  ttbr1 : Word
  imgBase : Word
  /-- IMG_LEN, registers 3 and 4. -/
  imgLen : Wide
deriving DecidableEq, Repr

/-- The fields of STATUS (R28); its reserved bits hold nothing and read as zero (`Status.word`). -/
structure Status where
  busy : Bool
  done : Bool
  err : Bool
  errCode : BitVec 3
  errTbl : BitVec 1
  errLvl : BitVec 1
deriving DecidableEq, Repr

/-- The names of the walk state machine's states (R34). -/
inductive WalkState where
  | idle
  | passStart
  | route
  | l1Fetch
  | l1Decode
  | l2Fetch
  | l2Decode
  | emit
  | advance
  | passEnd
  | done
  | error
deriving DecidableEq, Repr

/-- `ent_kind` (R38). -/
inductive EntKind where
  | none
  | entry
  | endOfPass
deriving DecidableEq, Repr

/-- The accumulator of the range coalescer (R40). -/
structure Accumulator where
  valid : Bool
  vstart : Word
  size : Wide
  /-- Two's complement. -/
  off : Offset
  ap : BitVec 3
  xn : BitVec 1
  texcb : BitVec 5
deriving DecidableEq, Repr

/-- How far a flush has come (spec/44_range_coalescer.md R235: decode the cache attribute, then the access
permission, then execute-never, then emit), with the item that caused it and what has been decoded. The division
into single steps is the model's own: DESIGN CHOICE, log entry 8. -/
inductive FlushStep where
  | idle
  | texcb (item : StreamItem)
  | ap (item : StreamItem) (c : CacheLabel)
  | xn (item : StreamItem) (c : CacheLabel) (p : AccessLabel)
  | emit (item : StreamItem) (c : CacheLabel) (p : AccessLabel) (x : Bool)
deriving DecidableEq, Repr

/-! ## The decoders invoked directly (spec/43_attribute_decoders.md R218; the model's own port, log entry 9) -/

/-- An operand presented to one of the four decoders. -/
inductive AttrQuery where
  | ap (v : BitVec 3)
  | texcb (v : BitVec 5)
  | cache (v : BitVec 2)
  | xn (v : BitVec 1)
deriving DecidableEq, Repr

/-- What a decoder answers: "either a label or the named failure" (R218). -/
inductive Answer (α : Type) where
  /-- Not invoked yet. -/
  | none
  | label (a : α)
  /-- ReservedAP or ReservedTEXCB, with the value. -/
  | reserved (v : Word)
deriving DecidableEq, Repr

/-- The last answer of each decoder. -/
structure Answers where
  access : Answer AccessLabel
  cacheAttr : Answer CacheLabel
  policy : Answer Policy
  executeNever : Answer Bool
deriving DecidableEq, Repr

/-! ## Memory and the environment -/

/-- The image as a sparse list of (index, byte); its canonical form is `Memory.wf` of Machine/Ops.lean. -/
abbrev Memory := List Host.Cell

/-- What the environment does next. The order in which the host, the consumer and the memory port move relative to
the block is this list: DESIGN CHOICE, log entry 2. -/
inductive Input where
  /-- The block makes one transition. -/
  | proceed
  /-- The block stays where it is for a moment: the state simply lasts (spec/70_reset_and_hazards.md R305). -/
  | hold
  /-- The consumer begins or stops taking (spec/70_reset_and_hazards.md R303, spec/93_implementation_defined.md U10). -/
  | consumer (ready : Bool)
  /-- The memory port begins or stops answering (spec/93_implementation_defined.md U11). -/
  | memory (ready : Bool)
  /-- A host write of a register by its number (spec/10_state.md R21). -/
  | write (reg : Nat) (v : Word)
  /-- A host read of a register by its number (R21). -/
  | read (reg : Nat)
  /-- The reset input is asserted and released (spec/70_reset_and_hazards.md R290). -/
  | reset
  /-- The host replaces the image (spec/20_memory.md R73). -/
  | loadImage (cells : List Host.Cell)
  /-- A consumer invokes a decoder directly (spec/43_attribute_decoders.md R218). -/
  | decode (q : AttrQuery)
  /-- The host polls STATUS until no walk is running (spec/70_reset_and_hazards.md R304). -/
  | poll
  /-- HOST_CONTINUE_AFTER_ERROR = false (spec/00_scope.md R7): after a failed walk the host does nothing more. -/
  | stopOnError
deriving DecidableEq, Repr

/-! ## State -/

structure State where
  /-- TTBR0, TTBR1, IMG_BASE, IMG_LEN as the host reads and writes them (R22 to R26). -/
  cfg : ConfigRegs
  /-- STATUS (R28). -/
  status : Status
  /-- ERR_VA (R29). -/
  errVa : Word
  /-- ERR_ADDR (R30). -/
  errAddr : Word
  /-- ERR_DATA (R31). -/
  errData : Word
  /-- The table index of the pass in progress (R32). -/
  tbl : BitVec 1
  /-- The scan counter (R33). -/
  va : Wide
  /-- The state of the walk state machine (R34). -/
  st : WalkState
  /-- Address of the first-level descriptor of the current granule (R35). -/
  l1a : Word
  /-- The first-level descriptor (R35). -/
  l1d : Word
  /-- Address of the second-level descriptor (R36). -/
  l2a : Word
  /-- The second-level descriptor (R36). -/
  l2d : Word
  /-- The latched domain (R37). -/
  dom : BitVec 4
  /-- The output holding register (R38). -/
  ent : MappingEntry
  /-- The table index an END_OF_PASS item carries in the output holding register (R149). -/
  entTbl : BitVec 1
  /-- What is being offered (R38). -/
  entKind : EntKind
  /-- The snapshot w_ttbr[0], w_ttbr[1], w_base, w_len (R39). -/
  snap : ConfigRegs
  /-- The coalescer's accumulator (R40). -/
  cur : Accumulator
  /-- The coalescer's flush in progress (the model's own, log entry 8). -/
  flush : FlushStep
  /-- A direct invocation of a decoder (the model's own, log entry 9). -/
  direct : Option AttrQuery
  /-- The answers to direct invocations (the model's own, log entry 9). -/
  answers : Answers
  /-- The ROM image (spec/20_memory.md R60): not part of the block, never written by it (R68). -/
  image : Memory
  /-- Whether the optional coalescer is present (spec/00_scope.md R4; log entry 3). No step changes it. -/
  coalescer : Bool
  /-- Whether the host takes what comes out at the end: the items, or with the coalescer the Merged Ranges
  (spec/70_reset_and_hazards.md R303; the model's own, log entry 24). While it is false the block holds. -/
  consumerReady : Bool
  /-- Whether the memory port answers (spec/93_implementation_defined.md U11; the model's own, log entry 24). While it
  is false a fetch holds. -/
  memoryReady : Bool
  /-- The items the consumer has taken, oldest first (the model's own, log entry 14). -/
  items : List StreamItem
  /-- The Merged Ranges emitted, oldest first (the model's own, log entry 14). -/
  ranges : List MergedRange
  /-- The answers to host register reads, oldest first (the model's own, log entry 14). -/
  readLog : List Word
  /-- What the environment does next (the model's own, log entry 2). -/
  inputs : List Input
deriving DecidableEq, Repr

/-! ## Reset values -/

/-- All configuration registers zero (R44). -/
def ConfigRegs.zero : ConfigRegs := { ttbr0 := 0, ttbr1 := 0, imgBase := 0, imgLen := 0 }

/-- STATUS = 0 (R44). -/
def Status.zero : Status := { busy := false, done := false, err := false, errCode := 0, errTbl := 0, errLvl := 0 }

/-- The zero Mapping Entry (R38; log entry 5). -/
def MappingEntry.zero : MappingEntry :=
  { virtualAddress := 0, physicalAddress := 0, accessPermission := 0, cacheAttrs := 0, executeNever := 0 }

/-- The accumulator at reset and at the start of every pass (R40, R44). -/
def Accumulator.zero : Accumulator := { valid := false, vstart := 0, size := 0, off := 0, ap := 0, xn := 0, texcb := 0 }

/-- No decoder invoked yet (log entry 9). -/
def Answers.empty : Answers := { access := .none, cacheAttr := .none, policy := .none, executeNever := .none }

/-- The machine right after power-on and reset: every register as R44 says, no image loaded, nothing delivered, no
input pending, and the environment ready (log entry 24). -/
def State.reset : State :=
  { cfg := ConfigRegs.zero
    status := Status.zero
    errVa := 0
    errAddr := 0
    errData := 0
    tbl := 0
    va := 0
    st := .idle
    l1a := 0
    l1d := 0
    l2a := 0
    l2d := 0
    dom := 0
    ent := MappingEntry.zero
    entTbl := 0
    entKind := .none
    snap := ConfigRegs.zero
    cur := Accumulator.zero
    flush := .idle
    direct := none
    answers := Answers.empty
    image := []
    coalescer := Sys2Proof.Config.coalescerAtPowerOn
    consumerReady := true
    memoryReady := true
    items := []
    ranges := []
    readLog := []
    inputs := [] }

/-! ## Why a step stops -/

/-- The model's only fault. The block's own fatal errors are next states (spec/60_exceptions.md R258). -/
inductive Fault where
  /-- The walker is in EMIT or PASS_END, no item is offered and no flush runs. Raised by the walker's own step; no
  consistent state reaches it (log entry 19). Safe: the model stops where the spec describes no behaviour. -/
  | nothingOffered
deriving DecidableEq, Repr

/-- Why the model gives a step no meaning. -/
inductive Refusal where
  /-- An instruction without a meaning yet; raised by no arm of this model. Safe. -/
  | notModelled (mnemonic : String)
  /-- A host access to a register number above 9 (spec/93_implementation_defined.md U15: refuse). Raised by the host
  port. Safe. -/
  | noSuchRegister (reg : Nat)
  /-- The image replaced while a walk runs (spec/20_memory.md R71, spec/93_implementation_defined.md U9: refuse).
  Raised by the host port. Safe. -/
  | imageChangedDuringWalk
deriving DecidableEq, Repr

end Sys2Proof.Machine
end

