-- ==== Sys2Proof/Machine/Flags.lean ====
section
/-! DEFINITION. STATUS, the block's only flags (spec/10_state.md R28), and everything that changes it: an accepted START
(R130), the normal end of a walk (R150) and a fatal error (spec/60_exceptions.md R258). -/

namespace Sys2Proof.Machine

/-- STATUS as the host reads it; bits [31:8] are reserved and zero (R28). -/
def Status.word (f : Status) : Word :=
  (BitVec.ofBool f.busy).setWidth 32 ||| (BitVec.ofBool f.done).setWidth 32 <<< 1
    ||| (BitVec.ofBool f.err).setWidth 32 <<< 2 ||| f.errCode.setWidth 32 <<< 3
    ||| f.errTbl.setWidth 32 <<< 6 ||| f.errLvl.setWidth 32 <<< 7

/-- A walk begins (R130): DONE cleared, BUSY set. -/
def Status.started (f : Status) : Status := { f with done := false, busy := true }

/-- A walk ends normally (R150): BUSY cleared, DONE set. -/
def Status.finished (f : Status) : Status := { f with busy := false, done := true }

/-- A fatal error (R258): ERR set with its code, table and level; BUSY cleared; DONE not touched. -/
def Status.failed (f : Status) (code : BitVec 3) (tbl lvl : BitVec 1) : Status :=
  { f with err := true, errCode := code, errTbl := tbl, errLvl := lvl, busy := false }

/-- The causes of R250 that have a code. -/
inductive ErrorName where
  /-- Belongs to the host; the block never sets it (R251). -/
  | configError
  | outOfBounds
  | malformed
  | reservedAP
  | reservedTEXCB
deriving DecidableEq, Repr

/-- The code of a cause (R250). -/
def ErrorName.code : ErrorName → BitVec 3
  | .configError => 1
  | .outOfBounds => 2
  | .malformed => 3
  | .reservedAP => 4
  | .reservedTEXCB => 5

end Sys2Proof.Machine
end

