-- ==== Sys2Proof/Machine/Operands.lean ====
section
/-! DEFINITION. Addresses, field assembly, entries and labels: every formula a meaning or a transition takes its
operands from (spec/00_scope.md R6, spec/30_encoding.md R103 to R108 and R115, spec/40_table_walker.md R133 to R146). -/

namespace Sys2Proof.Machine

/-! ## Constants (R6) -/

/-- GRANULE: the scan stride, 1024 bytes. -/
def granule : Wide := 1024

/-- The value of the scan counter that marks the end of a pass: 2^32 (R33, R136). -/
def scanEnd : Wide := 0x100000000

/-- L1_MASK: the mask applied to a root to get the first-level table base. -/
def l1Mask (tbl : BitVec 1) : Word := if tbl = 0 then 0xFFFFFF80 else 0xFFFFC000

/-- L1_INDEX_MASK. -/
def l1IndexMask : Word := 0x3FFC

/-- L2_INDEX_MASK. -/
def l2IndexMask : Word := 0x3FC

/-! ## Routing and descriptor addresses -/

/-- The table a granule address belongs to: the split is at bit 25 of the virtual address (R133). -/
def route (va : Wide) : BitVec 1 := if va >>> 25 ≠ 0 then 1 else 0

/-- The granule address as a 32-bit virtual address: `va[31:0]`. -/
def va32 (va : Wide) : Word := va.setWidth 32

/-- The root of a pass (R39, R131). -/
def ConfigRegs.root (c : ConfigRegs) (tbl : BitVec 1) : Word := if tbl = 0 then c.ttbr0 else c.ttbr1

/-- `l1_addr` (R138). -/
def l1Addr (tbl : BitVec 1) (ttbr va : Word) : Word := (ttbr &&& l1Mask tbl) ||| ((va >>> 18) &&& l1IndexMask)

/-- `l2_addr` (R142); the table base is used in place (R103). -/
def l2Addr (tableBase : BitVec 22) (va : Word) : Word :=
  tableBase.setWidth 32 <<< 10 ||| ((va >>> 10) &&& l2IndexMask)

/-! ## Field assembly (R104) -/

/-- The 3-bit access permission: AP[1:0] below APX. -/
def apOf (apLo : BitVec 2) (apx : BitVec 1) : BitVec 3 := apLo.setWidth 3 ||| apx.setWidth 3 <<< 2

/-- The 5-bit cache attribute: C and B below TEX. -/
def texcbOf (cb : BitVec 2) (tex : BitVec 3) : BitVec 5 := cb.setWidth 5 ||| tex.setWidth 5 <<< 2

/-! ## Physical addresses (R145, R146): base OR offset, never addition -/

/-- `pa_sec`: 1 MiB, 20 offset bits. -/
def paSection (base : BitVec 12) (va : Word) : PAddr :=
  (base.setWidth 32 <<< 20 ||| (va &&& 0x000FFFFF)).setWidth 40

/-- `pa_ssec`: 16 MiB, the concatenation EXT2 : EXT1 : base : 24 offset bits (log entry 17). -/
def paSupersection (base : BitVec 8) (ext1 ext2 : BitVec 4) (va : Word) : PAddr :=
  ext2.setWidth 40 <<< 36 ||| ext1.setWidth 40 <<< 32 ||| base.setWidth 40 <<< 24 ||| (va &&& 0x00FFFFFF).setWidth 40

/-- `pa_large`: 64 KiB, 16 offset bits. -/
def paLarge (base : BitVec 16) (va : Word) : PAddr :=
  (base.setWidth 32 <<< 16 ||| (va &&& 0x0000FFFF)).setWidth 40

/-- `pa_small`: 4 KiB, 12 offset bits. -/
def paSmall (base : BitVec 20) (va : Word) : PAddr :=
  (base.setWidth 32 <<< 12 ||| (va &&& 0x00000FFF)).setWidth 40

/-! ## The entry of each mapping class -/

/-- The Mapping Entry of a Section (R173). -/
def sectionEntry (f : SectionFields) (va : Word) : MappingEntry :=
  { virtualAddress := va, physicalAddress := paSection f.base va, accessPermission := apOf f.apLo f.apx,
    cacheAttrs := texcbOf f.cb f.tex, executeNever := f.xn }

/-- The Mapping Entry of a Supersection (R174). -/
def supersectionEntry (f : SupersectionFields) (va : Word) : MappingEntry :=
  { virtualAddress := va, physicalAddress := paSupersection f.base f.ext1 f.ext2 va,
    accessPermission := apOf f.apLo f.apx, cacheAttrs := texcbOf f.cb f.tex, executeNever := f.xn }

/-- The Mapping Entry of a Large Page (R191). -/
def largePageEntry (f : LargePageFields) (va : Word) : MappingEntry :=
  { virtualAddress := va, physicalAddress := paLarge f.base va, accessPermission := apOf f.apLo f.apx,
    cacheAttrs := texcbOf f.cb f.tex, executeNever := f.xn }

/-- The Mapping Entry of a Small Page (R192). -/
def smallPageEntry (f : SmallPageFields) (va : Word) : MappingEntry :=
  { virtualAddress := va, physicalAddress := paSmall f.base va, accessPermission := apOf f.apLo f.apx,
    cacheAttrs := texcbOf f.cb f.tex, executeNever := f.xn }

/-! ## Attribute values and labels -/

/-- `cacheability` (R107, R214): total, used for the outer and for the inner policy of a cached attribute. -/
def cacheability (c : BitVec 2) : Policy :=
  if c = 0 then .nonCacheable
  else if c = 1 then .writeBackWriteAllocate
  else if c = 2 then .writeThroughNoWriteAllocate
  else .writeBackNoWriteAllocate

/-- The label string of a policy (R107, R115). -/
def Policy.text : Policy → String
  | .nonCacheable => "non-cacheable"
  | .writeBackWriteAllocate => "write-back/write-allocate"
  | .writeThroughNoWriteAllocate => "write-through/no-write-allocate"
  | .writeBackNoWriteAllocate => "write-back/no-write-allocate"

/-- The label string of a cache attribute (R106, R115). -/
def CacheLabel.text : CacheLabel → String
  | .stronglyOrdered => "Strongly-ordered"
  | .device => "Device"
  | .cached outer inner => "outer:" ++ outer.text ++ " inner:" ++ inner.text

/-- The label string of an access permission (R105, R115). -/
def AccessLabel.text : AccessLabel → String
  | .privilegedReadWrite => "privileged read-write"
  | .privilegedReadOnly => "privileged read-only"
  | .readWrite => "read-write"

/-- The rendering of the execute-never flag (R108, R215): the marker, or blank. -/
def executeNeverText (x : Bool) : String := if x then Sys2Proof.Config.xnMarker else ""

/-- The last three fields of an output line, in the order R114 fixes: cache label, access label, execute marker. -/
def MergedRange.labelTexts (r : MergedRange) : List String :=
  [r.decodedCacheAttr.text, r.decodedAccess.text, executeNeverText r.decodedExecuteFlag]

/-- The encoded instruction a direct invocation of a decoder presents. -/
def AttrQuery.encoded : AttrQuery → Encoded
  | .ap v => .ap v
  | .texcb v => .texcb v
  | .cache v => .cache v
  | .xn v => .xn v

end Sys2Proof.Machine
end

