-- ==== Sys2Proof/Machine/Ops.lean ====
section
/-! DEFINITION. The shared operations: the image and its bounds check, the fatal transition and the way out of it, the
walker's moves that a meaning makes, and the two ways a decoder's result goes. -/

namespace Sys2Proof.Machine

/-! ## The image (spec/20_memory.md R60 to R68) -/

/-- What an index that is not listed holds: zero. The list is a sparse writing of the whole byte sequence
(log entry 10). -/
def Memory.unlisted : Byte := 0

/-- The byte at an image index. -/
def Memory.byte : Memory → Nat → Byte
  | [], _ => Memory.unlisted
  | (a, b) :: m, k => if a = k then b else Memory.byte m k

/-- The image with one byte placed; the canonical form is kept. Only the host uses it: the block never writes (R68). -/
def Memory.place : Memory → Nat → Byte → Memory
  | [], k, b => if b = Memory.unlisted then [] else [(k, b)]
  | (a, c) :: m, k, b =>
    if k < a then (if b = Memory.unlisted then (a, c) :: m else (k, b) :: (a, c) :: m)
    else if k = a then (if b = Memory.unlisted then m else (k, b) :: m)
    else (a, c) :: Memory.place m k b

/-- Indices rise strictly from `lo` on, and no listed byte equals what an unlisted index holds. -/
def Memory.wfFrom : Nat → Memory → Bool
  | _, [] => true
  | lo, (a, b) :: m => decide (lo ≤ a) && decide (b ≠ Memory.unlisted) && Memory.wfFrom (a + 1) m

/-- The canonical form: equal images are equal lists. -/
def Memory.wf (m : Memory) : Bool := Memory.wfFrom 0 m

/-- The image that a list of (index, byte) describes, later cells winning. -/
def Memory.ofCells (cells : List Host.Cell) : Memory := cells.foldl (fun m c => Memory.place m c.1 c.2) []

/-- The bounds check of R63: all four bytes inside, exact arithmetic. -/
def inBounds (base : Word) (len : Wide) (a : Word) : Bool :=
  decide (base.toNat ≤ a.toNat) && decide (a.toNat - base.toNat + 4 ≤ len.toNat)

/-- The little-endian word at an image index (R62). -/
def Memory.word (m : Memory) (k : Nat) : Word :=
  wordOfBytes (m.byte k) (m.byte (k + 1)) (m.byte (k + 2)) (m.byte (k + 3))

/-- `MemRead(a, 4)` (R63): the word, or none when it is out of bounds and nothing is read. -/
def memRead (m : Memory) (base : Word) (len : Wide) (a : Word) : Option Word :=
  if inBounds base len a then some (m.word (a.toNat - base.toNat)) else none

/-- A fetch of the walk: the snapshot window (R63). -/
def fetchWord (s : State) (a : Word) : Option Word := memRead s.image s.snap.imgBase s.snap.imgLen a

/-! ## The fatal transition and the way out (spec/60_exceptions.md R250, R258, R262) -/

/-- A cause with its recorded values (the rows of R250). -/
structure ErrInfo where
  code : BitVec 3
  lvl : BitVec 1
  va : Word
  addr : Word
  data : Word
deriving DecidableEq, Repr

/-- OutOfBounds at a descriptor address (R250): level 0 for the first-level fetch, 1 for the second. -/
def ErrInfo.outOfBounds (lvl : BitVec 1) (va addr : Word) : ErrInfo :=
  { code := ErrorName.outOfBounds.code, lvl := lvl, va := va, addr := addr, data := 0 }

/-- Malformed: a Page Table descriptor `d` fetched from `addr` (R172, R250). -/
def ErrInfo.malformed (va addr d : Word) : ErrInfo :=
  { code := ErrorName.malformed.code, lvl := 0, va := va, addr := addr, data := d }

/-- ReservedAP at the flush of the range that starts at `vstart` (R211, R250). -/
def ErrInfo.reservedAP (vstart : Word) (v : BitVec 3) : ErrInfo :=
  { code := ErrorName.reservedAP.code, lvl := 0, va := vstart, addr := 0, data := v.setWidth 32 }

/-- ReservedTEXCB at the flush of the range that starts at `vstart` (R213, R250). -/
def ErrInfo.reservedTEXCB (vstart : Word) (t : BitVec 5) : ErrInfo :=
  { code := ErrorName.reservedTEXCB.code, lvl := 0, va := vstart, addr := 0, data := t.setWidth 32 }

/-- Taking the block's only exception, the fatal transition of R258. Nothing else changes; a flush in progress is over,
since no rule runs in ERROR (log entry 8). -/
def raise (e : ErrInfo) (s : State) : State :=
  { s with
    status := s.status.failed e.code s.tbl e.lvl
    errVa := e.va
    errAddr := e.addr
    errData := e.data
    entKind := .none
    flush := .idle
    st := .error }

/-- Reset (spec/70_reset_and_hazards.md R290 to R292), the only way out of ERROR (R261, R262): every register of the
block takes its reset value; the image, what was already delivered and the environment's readiness stay. -/
def applyReset (s : State) : State :=
  { State.reset with
    answers := s.answers
    image := s.image
    coalescer := s.coalescer
    consumerReady := s.consumerReady
    memoryReady := s.memoryReady
    items := s.items
    ranges := s.ranges
    readLog := s.readLog
    inputs := s.inputs }

/-! ## Moves of the walker that a meaning makes -/

/-- `skip` (R9): nothing for the current granule, and advance. -/
def skipGranule (s : State) : State := { s with st := .advance }

/-- `emit` (R147): the entry is placed in the output holding register and offered (log entry 4). -/
def emitEntry (e : MappingEntry) (s : State) : State := { s with ent := e, entKind := .entry, st := .emit }

/-- `raise Malformed(d)` (R172): the descriptor came from `l1a` for the granule `va`. -/
def raiseMalformed (d : Word) (s : State) : State := raise (.malformed (va32 s.va) s.l1a d) s

/-- An accepted START (R130): the snapshot is taken (R39), DONE cleared, BUSY set, and the accumulator takes its
pass-start value (R40; log entry 23). -/
def beginWalk (s : State) : State :=
  { s with
    snap := s.cfg
    status := s.status.started
    tbl := 0
    entKind := .none
    cur := Accumulator.zero
    st := .passStart }

/-! ## Where a decoder's result goes

In a flush (R217, R235) a label leads to the next decoder and a reserved value to the fatal transition. Invoked
directly (R218) the decoder only answers. -/

/-- `decode_ap` gives a label (R210). -/
def deliverAccess (p : AccessLabel) (s : State) : State :=
  match s.direct, s.flush with
  | none, .ap item c => { s with flush := .xn item c p }
  | _, _ => { s with direct := none, answers := { s.answers with access := .label p } }

/-- `decode_ap` meets a reserved value (R211). -/
def failAccess (v : BitVec 3) (s : State) : State :=
  match s.direct, s.flush with
  | none, .ap _ _ => raise (.reservedAP s.cur.vstart v) s
  | _, _ => { s with direct := none, answers := { s.answers with access := .reserved (v.setWidth 32) } }

/-- `decode_texcb` gives a label (R212). -/
def deliverCacheAttr (c : CacheLabel) (s : State) : State :=
  match s.direct, s.flush with
  | none, .texcb item => { s with flush := .ap item c }
  | _, _ => { s with direct := none, answers := { s.answers with cacheAttr := .label c } }

/-- `decode_texcb` meets a reserved value (R213). -/
def failCacheAttr (t : BitVec 5) (s : State) : State :=
  match s.direct, s.flush with
  | none, .texcb _ => raise (.reservedTEXCB s.cur.vstart t) s
  | _, _ => { s with direct := none, answers := { s.answers with cacheAttr := .reserved (t.setWidth 32) } }

/-- `decode_xn` gives the flag (R215). -/
def deliverExecuteNever (x : Bool) (s : State) : State :=
  match s.direct, s.flush with
  | none, .xn item c p => { s with flush := .emit item c p x }
  | _, _ => { s with direct := none, answers := { s.answers with executeNever := .label x } }

/-- `cacheability` gives a policy (R214). In a flush it works inside `decode_texcb` (R212), so only a direct invocation
reaches it by itself. -/
def deliverPolicy (p : Policy) (s : State) : State :=
  { s with direct := none, answers := { s.answers with policy := .label p } }

end Sys2Proof.Machine
end

