-- ==== Sys2Proof/Machine/Attributes.lean ====
section
/-! DEFINITION. The attribute values (spec/43_attribute_decoders.md R210 to R215): each row is the decoder's work on one
value, or on the values of one pattern. Where the result goes is Machine/Ops.lean's (R217, R218). -/

namespace Sys2Proof.Machine

/-! ## Access permission (R210, R211) -/

/-- AP_000.reserved (R211): ReservedAP(0). -/
def execAp000Reserved (s : State) : Host.Outcome State Fault Refusal := .next (failAccess 0 s)

/-- AP_001 (R210): "privileged read-write". -/
def execAp001 (s : State) : Host.Outcome State Fault Refusal := .next (deliverAccess .privilegedReadWrite s)

/-- AP_010.reserved (R211): ReservedAP(2). -/
def execAp010Reserved (s : State) : Host.Outcome State Fault Refusal := .next (failAccess 2 s)

/-- AP_011 (R210): "read-write". -/
def execAp011 (s : State) : Host.Outcome State Fault Refusal := .next (deliverAccess .readWrite s)

/-- AP_100.reserved (R211): ReservedAP(4). -/
def execAp100Reserved (s : State) : Host.Outcome State Fault Refusal := .next (failAccess 4 s)

/-- AP_101 (R210): "privileged read-only". -/
def execAp101 (s : State) : Host.Outcome State Fault Refusal := .next (deliverAccess .privilegedReadOnly s)

/-- AP_110.reserved (R211): ReservedAP(6). -/
def execAp110Reserved (s : State) : Host.Outcome State Fault Refusal := .next (failAccess 6 s)

/-- AP_111.reserved (R211): ReservedAP(7). -/
def execAp111Reserved (s : State) : Host.Outcome State Fault Refusal := .next (failAccess 7 s)

/-! ## Cache attribute (R212, R213) -/

/-- TEXCB_STRONGLY_ORDERED (R212): "Strongly-ordered". -/
def execTexcbStronglyOrdered (s : State) : Host.Outcome State Fault Refusal :=
  .next (deliverCacheAttr .stronglyOrdered s)

/-- TEXCB_DEVICE (R212): "Device". -/
def execTexcbDevice (s : State) : Host.Outcome State Fault Refusal := .next (deliverCacheAttr .device s)

/-- TEXCB_CACHED (R212): outer and inner are decoded independently through the cacheability table. -/
def execTexcbCached (outer inner : BitVec 2) (s : State) : Host.Outcome State Fault Refusal :=
  .next (deliverCacheAttr (.cached (cacheability outer) (cacheability inner)) s)

/-- TEXCB_RESERVED_02_03 (R213): ReservedTEXCB(t). -/
def execTexcbReserved02 (t : BitVec 5) (s : State) : Host.Outcome State Fault Refusal := .next (failCacheAttr t s)

/-- TEXCB_RESERVED_04_07 (R213): ReservedTEXCB(t). -/
def execTexcbReserved04 (t : BitVec 5) (s : State) : Host.Outcome State Fault Refusal := .next (failCacheAttr t s)

/-- TEXCB_RESERVED_08_0F (R213): ReservedTEXCB(t). -/
def execTexcbReserved08 (t : BitVec 5) (s : State) : Host.Outcome State Fault Refusal := .next (failCacheAttr t s)

/-! ## Cacheability (R214) -/

/-- CACHE_00 (R214): "non-cacheable". -/
def execCache00 (s : State) : Host.Outcome State Fault Refusal := .next (deliverPolicy .nonCacheable s)

/-- CACHE_01 (R214): "write-back/write-allocate". -/
def execCache01 (s : State) : Host.Outcome State Fault Refusal := .next (deliverPolicy .writeBackWriteAllocate s)

/-- CACHE_10 (R214): "write-through/no-write-allocate". -/
def execCache10 (s : State) : Host.Outcome State Fault Refusal := .next (deliverPolicy .writeThroughNoWriteAllocate s)

/-- CACHE_11 (R214): "write-back/no-write-allocate". -/
def execCache11 (s : State) : Host.Outcome State Fault Refusal := .next (deliverPolicy .writeBackNoWriteAllocate s)

/-! ## Execute-never (R215) -/

/-- XN_0 (R215): false, rendered blank. -/
def execXn0 (s : State) : Host.Outcome State Fault Refusal := .next (deliverExecuteNever false s)

/-- XN_1 (R215): true, rendered as the marker. -/
def execXn1 (s : State) : Host.Outcome State Fault Refusal := .next (deliverExecuteNever true s)

end Sys2Proof.Machine
end

