-- ==== Sys2Proof/Machine/Control.lean ====
section
/-! DEFINITION. The block's only command (spec/40_table_walker.md R130). -/

namespace Sys2Proof.Machine

/-- START (R27, R130): accepted when BUSY = 0 and ERR = 0, otherwise "ignored with no effect at all". The reserved bits
of the word written to CTRL have no effect. -/
def execStart (_reserved : BitVec 31) (s : State) : Host.Outcome State Fault Refusal :=
  .next (if s.status.busy || s.status.err then s else beginWalk s)

end Sys2Proof.Machine
end

