-- ==== Sys2Proof/Machine/FirstLevel.lean ====
section
/-! DEFINITION. The first-level descriptor classes (spec/41_l1_descriptors.md R170 to R175). -/

namespace Sys2Proof.Machine

/-- L1_FAULT (R170): no mapping; the granule is skipped. Bits [31:2] have no effect. -/
def execL1Fault (_rest : BitVec 30) (s : State) : Host.Outcome State Fault Refusal := .next (skipGranule s)

/-- L1_PAGE_TABLE, well formed (R171, R140): the domain is latched and the second-level fetch follows. The address that
R171 forms is latched in L2_FETCH and nowhere else (spec/10_state.md R36): `fetchL2`, log entry 7. -/
def execL1PageTable (f : PageTableFields) (s : State) : Host.Outcome State Fault Refusal :=
  .next { s with dom := f.domain, st := .l2Fetch }

/-- L1_PAGE_TABLE with bit 2 set (R172): Malformed, before any second-level fetch (R255). -/
def execL1PageTableMalformedBit2 (f : PageTableFields) (s : State) : Host.Outcome State Fault Refusal :=
  .next (raiseMalformed (pageTableWord f) s)

/-- L1_PAGE_TABLE with bit 3 set and bit 2 clear (R172): Malformed. -/
def execL1PageTableMalformedBit3 (f : PageTableFields) (s : State) : Host.Outcome State Fault Refusal :=
  .next (raiseMalformed (pageTableWord f) s)

/-- L1_PAGE_TABLE with bit 4 set and bits 3 and 2 clear (R172): Malformed. -/
def execL1PageTableMalformedBit4 (f : PageTableFields) (s : State) : Host.Outcome State Fault Refusal :=
  .next (raiseMalformed (pageTableWord f) s)

/-- L1_SECTION (R173): 1 MiB; the entry is formed and offered, reserved attributes included. -/
def execL1Section (f : SectionFields) (s : State) : Host.Outcome State Fault Refusal :=
  .next (emitEntry (sectionEntry f (va32 s.va)) s)

/-- L1_SUPERSECTION (R174): 16 MiB, a 40-bit physical address. -/
def execL1Supersection (f : SupersectionFields) (s : State) : Host.Outcome State Fault Refusal :=
  .next (emitEntry (supersectionEntry f (va32 s.va)) s)

/-- L1_RESERVED (R175): exactly as a Fault; bits [31:2] have no effect. -/
def execL1Reserved (_rest : BitVec 30) (s : State) : Host.Outcome State Fault Refusal := .next (skipGranule s)

end Sys2Proof.Machine
end

