-- ==== Sys2Proof/Machine/SecondLevel.lean ====
section
/-! DEFINITION. The second-level descriptor classes (spec/42_l2_descriptors.md R190 to R192). -/

namespace Sys2Proof.Machine

/-- L2_FAULT (R190): the granule is skipped. Bits [31:2] have no effect. -/
def execL2Fault (_rest : BitVec 30) (s : State) : Host.Outcome State Fault Refusal := .next (skipGranule s)

/-- L2_LARGE_PAGE (R191): 64 KiB. -/
def execL2LargePage (f : LargePageFields) (s : State) : Host.Outcome State Fault Refusal :=
  .next (emitEntry (largePageEntry f (va32 s.va)) s)

/-- L2_SMALL_PAGE (R192): 4 KiB; type 3 is a Small Page with execute-never set. -/
def execL2SmallPage (f : SmallPageFields) (s : State) : Host.Outcome State Fault Refusal :=
  .next (emitEntry (smallPageEntry f (va32 s.va)) s)

end Sys2Proof.Machine
end

