-- ==== Sys2Proof/Machine/Dispatch.lean ====
section
/-! DEFINITION. One arm per instruction. -/

namespace Sys2Proof.Machine

def exec (i : Instr) (s : State) : Host.Outcome State Fault Refusal :=
  match i with
  | .l1Fault rest => Sys2Proof.Machine.execL1Fault rest s
  | .l1PageTable f => Sys2Proof.Machine.execL1PageTable f s
  | .l1PageTableMalformedBit2 f => Sys2Proof.Machine.execL1PageTableMalformedBit2 f s
  | .l1PageTableMalformedBit3 f => Sys2Proof.Machine.execL1PageTableMalformedBit3 f s
  | .l1PageTableMalformedBit4 f => Sys2Proof.Machine.execL1PageTableMalformedBit4 f s
  | .l1Section f => Sys2Proof.Machine.execL1Section f s
  | .l1Supersection f => Sys2Proof.Machine.execL1Supersection f s
  | .l1Reserved rest => Sys2Proof.Machine.execL1Reserved rest s
  | .l2Fault rest => Sys2Proof.Machine.execL2Fault rest s
  | .l2LargePage f => Sys2Proof.Machine.execL2LargePage f s
  | .l2SmallPage f => Sys2Proof.Machine.execL2SmallPage f s
  | .ap000Reserved => Sys2Proof.Machine.execAp000Reserved s
  | .ap001 => Sys2Proof.Machine.execAp001 s
  | .ap010Reserved => Sys2Proof.Machine.execAp010Reserved s
  | .ap011 => Sys2Proof.Machine.execAp011 s
  | .ap100Reserved => Sys2Proof.Machine.execAp100Reserved s
  | .ap101 => Sys2Proof.Machine.execAp101 s
  | .ap110Reserved => Sys2Proof.Machine.execAp110Reserved s
  | .ap111Reserved => Sys2Proof.Machine.execAp111Reserved s
  | .texcbStronglyOrdered => Sys2Proof.Machine.execTexcbStronglyOrdered s
  | .texcbDevice => Sys2Proof.Machine.execTexcbDevice s
  | .texcbCached outer inner => Sys2Proof.Machine.execTexcbCached outer inner s
  | .texcbReserved02 t => Sys2Proof.Machine.execTexcbReserved02 t s
  | .texcbReserved04 t => Sys2Proof.Machine.execTexcbReserved04 t s
  | .texcbReserved08 t => Sys2Proof.Machine.execTexcbReserved08 t s
  | .cache00 => Sys2Proof.Machine.execCache00 s
  | .cache01 => Sys2Proof.Machine.execCache01 s
  | .cache10 => Sys2Proof.Machine.execCache10 s
  | .cache11 => Sys2Proof.Machine.execCache11 s
  | .xn0 => Sys2Proof.Machine.execXn0 s
  | .xn1 => Sys2Proof.Machine.execXn1 s
  | .start reserved => Sys2Proof.Machine.execStart reserved s

end Sys2Proof.Machine
end

