-- ==== Sys2Proof/Machine/Coalescer.lean ====
section
/-! DEFINITION. The range coalescer (spec/44_range_coalescer.md R230 to R239), an optional downstream stage, and what
happens when an item is taken from the walker (spec/40_table_walker.md R147, R149). -/

namespace Sys2Proof.Machine

/-! ## The accumulator -/

/-- The offset of an entry: physical minus virtual, in 41-bit two's complement, which holds the exact difference
(R231). -/
def offsetOf (e : MappingEntry) : Offset := e.physicalAddress.setWidth 41 - e.virtualAddress.setWidth 41

/-- `extends` (R232): same offset, same raw attributes, exact contiguity; the sum does not wrap. -/
def Accumulator.extendedBy (c : Accumulator) (e : MappingEntry) : Bool :=
  c.valid && offsetOf e == c.off && e.accessPermission == c.ap && e.executeNever == c.xn && e.cacheAttrs == c.texcb
    && e.virtualAddress.toNat == c.vstart.toNat + c.size.toNat

/-- Extend (R233): one granule more. -/
def Accumulator.extend (c : Accumulator) : Accumulator := { c with size := c.size + granule }

/-- Start a range at an entry (R234). -/
def Accumulator.startedBy (e : MappingEntry) : Accumulator :=
  { valid := true, vstart := e.virtualAddress, size := granule, off := offsetOf e, ap := e.accessPermission,
    xn := e.executeNever, texcb := e.cacheAttrs }

/-- The accumulator with no range in it (R236); the other registers keep their values. -/
def Accumulator.emptied (c : Accumulator) : Accumulator := { c with valid := false }

/-- The Merged Range of a flush (R112, R235): exclusive ends. -/
def Accumulator.merged (c : Accumulator) (label : CacheLabel) (p : AccessLabel) (x : Bool) : MergedRange :=
  { virtualStart := c.vstart
    virtualEnd := c.vstart.setWidth 33 + c.size
    physicalStart := (c.vstart.setWidth 41 + c.off).setWidth 40
    physicalEnd := c.vstart.setWidth 41 + c.off + c.size.setWidth 41
    physicalOffset := c.off
    decodedCacheAttr := label
    decodedAccess := p
    decodedExecuteFlag := x }

/-! ## The walker goes on -/

/-- A pass has ended and its item is processed (R149, R150): the second pass, with the accumulator at its pass-start
value (spec/10_state.md R40; log entry 23), or DONE. -/
def finishPass (s : State) : State :=
  if s.tbl = 0 then { s with tbl := 1, cur := Accumulator.zero, st := .passStart }
  else { s with st := .done, status := s.status.finished }

/-- The item has been taken and fully processed, so the walker leaves EMIT or PASS_END (R147, R149, R256). -/
def releaseWalker (item : StreamItem) (s : State) : State :=
  match item with
  | .entry _ => { s with st := .advance }
  | .endOfPass _ => finishPass s

/-! ## Items -/

/-- One item (R230): extend (R233), flush and start (R234), or end of pass (R236). A flush takes steps of its own, and
the walker waits for it. -/
def coalesceItem (item : StreamItem) (s : State) : State :=
  match item with
  | .entry e =>
    if s.cur.extendedBy e then releaseWalker item { s with cur := s.cur.extend }
    else if s.cur.valid then { s with flush := .texcb item }
    else releaseWalker item { s with cur := Accumulator.startedBy e }
  | .endOfPass _ =>
    if s.cur.valid then { s with flush := .texcb item }
    else releaseWalker item { s with cur := s.cur.emptied }

/-- The end of a flush (R234, R235, R236): the Merged Range is emitted, then the item that caused the flush is
finished. -/
def finishFlush (item : StreamItem) (label : CacheLabel) (p : AccessLabel) (x : Bool) (s : State) : State :=
  match item with
  | .entry e =>
    releaseWalker item
      { s with ranges := s.ranges ++ [s.cur.merged label p x], flush := .idle, cur := Accumulator.startedBy e }
  | .endOfPass _ =>
    releaseWalker item
      { s with ranges := s.ranges ++ [s.cur.merged label p x], flush := .idle, cur := s.cur.emptied }

/-- The item on offer (R38). -/
def offered (s : State) : Option StreamItem :=
  match s.entKind with
  | .none => none
  | .entry => some (.entry s.ent)
  | .endOfPass => some (.endOfPass s.entTbl)

/-- Whether the item on offer is taken now: the coalescer "always takes an item in bounded time"; an outside consumer
takes when it is ready (spec/70_reset_and_hazards.md R303). -/
def consumerTakes (s : State) : Bool := s.coalescer || s.consumerReady

/-- The consumer takes the item (R147, R149): the coalescer when it is present, otherwise an outside consumer, which
has nothing more to do. -/
def takeItem (item : StreamItem) (s : State) : State :=
  if s.coalescer then coalesceItem item { s with entKind := .none, items := s.items ++ [item] }
  else releaseWalker item { s with entKind := .none, items := s.items ++ [item] }

end Sys2Proof.Machine
end

