-- ==== Sys2Proof/Machine/Walker.lean ====
section
/-! DEFINITION. The transitions of the walk state machine (spec/40_table_walker.md R151) that run no instruction, and
which word the ones that do run decode. -/

namespace Sys2Proof.Machine

/-- What the machine does next: run the instruction that a word in its format stands for, from a state, or something
that is no instruction. -/
inductive Action where
  | run (e : Encoded) (s : State)
  | other (o : Host.Outcome State Fault Refusal)

/-- PASS_END is entered and its item offered (R149; log entry 4). -/
def enterPassEnd (s : State) : State := { s with entTbl := s.tbl, entKind := .endOfPass, st := .passEnd }

/-- PASS_START (R132): an absent root, all 32 bits zero (R24), skips the half; otherwise the scan starts at 0. -/
def startPass (s : State) : State :=
  if s.snap.root s.tbl = 0 then enterPassEnd s else { s with va := 0, st := .route }

/-- ROUTE (R133): a granule of the other table is passed over. -/
def routeGranule (s : State) : State :=
  if route s.va = s.tbl then { s with st := .l1Fetch } else { s with st := .advance }

/-- L1_FETCH (R139): the address is latched, then the word, or OutOfBounds at level 0 (log entry 6). -/
def fetchL1 (s : State) : State :=
  match fetchWord s (l1Addr s.tbl (s.snap.root s.tbl) (va32 s.va)) with
  | some w => { s with l1a := l1Addr s.tbl (s.snap.root s.tbl) (va32 s.va), l1d := w, st := .l1Decode }
  | none =>
    raise (.outOfBounds 0 (va32 s.va) (l1Addr s.tbl (s.snap.root s.tbl) (va32 s.va)))
      { s with l1a := l1Addr s.tbl (s.snap.root s.tbl) (va32 s.va) }

/-- The second-level address of the current granule (R142): the table base is bits [31:10] of `l1d`. -/
def l2AddrNow (s : State) : Word := l2Addr (pageTableFieldsOf s.l1d).tableBase (va32 s.va)

/-- L2_FETCH (R143): the address is latched, then the word, or OutOfBounds at level 1 (log entry 6). -/
def fetchL2 (s : State) : State :=
  match fetchWord s (l2AddrNow s) with
  | some w => { s with l2a := l2AddrNow s, l2d := w, st := .l2Decode }
  | none => raise (.outOfBounds 1 (va32 s.va) (l2AddrNow s)) { s with l2a := l2AddrNow s }

/-- ADVANCE (R136): the only way `va` changes during a pass; it does not wrap. -/
def advance (s : State) : State :=
  if s.va + granule = scanEnd then enterPassEnd { s with va := s.va + granule }
  else { s with va := s.va + granule, st := .route }

/-- A move of the block that needs a party outside: made when that party is ready, otherwise the block holds, for good
if the party never is (spec/70_reset_and_hazards.md R303, spec/93_implementation_defined.md U10, U11; log entry 24). -/
def whenReady (ready : Bool) (move : State → State) (s : State) : State := if ready then move s else s

/-- EMIT and PASS_END (R147, R149): the item on offer is taken, or held until the consumer takes it. -/
def offerStep (s : State) : Host.Outcome State Fault Refusal :=
  match offered s with
  | some item => .next (whenReady (consumerTakes s) (takeItem item) s)
  | none => .fault .nothingOffered

/-- One transition of the block: the coalescer's flush while one runs (the walker waits for it, R256), otherwise the
walk state machine. In IDLE, DONE and ERROR nothing happens (R290, R150, R262). A Merged Range is emitted when the host
takes it (R303). -/
def blockAction (s : State) : Action :=
  match s.flush with
  | .texcb _ => .run (.texcb s.cur.texcb) s
  | .ap _ _ => .run (.ap s.cur.ap) s
  | .xn _ _ _ => .run (.xn s.cur.xn) s
  | .emit item c p x => .other (.next (whenReady s.consumerReady (finishFlush item c p x) s))
  | .idle =>
    match s.st with
    | .idle => .other (.next s)
    | .passStart => .other (.next (startPass s))
    | .route => .other (.next (routeGranule s))
    | .l1Fetch => .other (.next (whenReady s.memoryReady fetchL1 s))
    | .l1Decode => .run (.l1 s.l1d) s
    | .l2Fetch => .other (.next (whenReady s.memoryReady fetchL2 s))
    | .l2Decode => .run (.l2 s.l2d) s
    | .emit => .other (offerStep s)
    | .advance => .other (.next (advance s))
    | .passEnd => .other (offerStep s)
    | .done => .other (.next s)
    | .error => .other (.next s)

end Sys2Proof.Machine
end

