-- ==== Sys2Proof/Machine/HostPort.lean ====
section
/-! DEFINITION. The host interface: registers by number (spec/10_state.md R21 to R31), the other inputs, and the host's
own sequences (spec/70_reset_and_hazards.md R293, spec/60_exceptions.md R259, R273). -/

namespace Sys2Proof.Machine

/-! ## Registers by number (R21) -/

/-- A host read; reads have no side effect (spec/70_reset_and_hazards.md R304). None: no such register. -/
def readReg (s : State) (reg : Nat) : Option Word :=
  match reg with
  | 0 => some s.cfg.ttbr0
  | 1 => some s.cfg.ttbr1
  | 2 => some s.cfg.imgBase
  | 3 => some (s.cfg.imgLen.setWidth 32)
  | 4 => some ((s.cfg.imgLen.extractLsb' 32 1).setWidth 32)
  | 5 => some 0
  | 6 => some s.status.word
  | 7 => some s.errVa
  | 8 => some s.errAddr
  | 9 => some s.errData
  | _ => none

/-- IMG_LEN with its low 32 bits replaced (register 3, R26). -/
def withLenLow (len : Wide) (v : Word) : Wide := (len.extractLsb' 32 1).setWidth 33 <<< 32 ||| v.setWidth 33

/-- IMG_LEN with its bit 32 replaced by bit 0 of the word (register 4, R26). -/
def withLenHigh (len : Wide) (v : Word) : Wide :=
  (v.extractLsb' 0 1).setWidth 33 <<< 32 ||| (len.extractLsb' 0 32).setWidth 33

/-- A configuration write: ignored while BUSY (spec/70_reset_and_hazards.md R300). -/
def writeConfig (c : ConfigRegs) (s : State) : State := if s.status.busy then s else { s with cfg := c }

/-- A host write. CTRL is register 5: the word is a command or nothing (R27). The status and error registers are
read-only: the write is ignored (R21). -/
def hostWrite (reg : Nat) (v : Word) (s : State) : Action :=
  match reg with
  | 0 => .other (.next (writeConfig { s.cfg with ttbr0 := v } s))
  | 1 => .other (.next (writeConfig { s.cfg with ttbr1 := v } s))
  | 2 => .other (.next (writeConfig { s.cfg with imgBase := v } s))
  | 3 => .other (.next (writeConfig { s.cfg with imgLen := withLenLow s.cfg.imgLen v } s))
  | 4 => .other (.next (writeConfig { s.cfg with imgLen := withLenHigh s.cfg.imgLen v } s))
  | 5 => .run (.ctrl v) s
  | 6 => .other (.next s)
  | 7 => .other (.next s)
  | 8 => .other (.next s)
  | 9 => .other (.next s)
  | _ => .other (.refused (.noSuchRegister reg))

/-- A host read: the answer is recorded (log entry 14). -/
def hostRead (reg : Nat) (s : State) : Host.Outcome State Fault Refusal :=
  match readReg s reg with
  | some v => .next { s with readLog := s.readLog ++ [v] }
  | none => .refused (.noSuchRegister reg)

/-- The host replaces the image (spec/20_memory.md R71, R73): refused while a walk runs. -/
def hostLoad (cells : List Host.Cell) (s : State) : Host.Outcome State Fault Refusal :=
  if s.status.busy then .refused .imageChangedDuringWalk else .next { s with image := Memory.ofCells cells }

/-! ## The next action -/

/-- The state with the input at the head of the list used up. -/
def State.afterInput (s : State) (rest : List Input) : State := { s with inputs := rest }

/-- Whose move it is, and what it is. A decoder's operand is served first; then the environment's list says; when the
list is empty the block moves, or holds for a party that is not ready (log entries 2 and 24). -/
def nextAction (s : State) : Action :=
  match s.direct with
  | some q => .run q.encoded s
  | none =>
    match s.inputs with
    | [] => blockAction s
    | .proceed :: rest => blockAction (s.afterInput rest)
    | .hold :: rest => .other (.next (s.afterInput rest))
    | .consumer ready :: rest => .other (.next { s.afterInput rest with consumerReady := ready })
    | .memory ready :: rest => .other (.next { s.afterInput rest with memoryReady := ready })
    | .write reg v :: rest => hostWrite reg v (s.afterInput rest)
    | .read reg :: rest => .other (hostRead reg (s.afterInput rest))
    | .reset :: rest => .other (.next (applyReset (s.afterInput rest)))
    | .loadImage cells :: rest => .other (hostLoad cells (s.afterInput rest))
    | .decode q :: rest => .other (.next { s.afterInput rest with direct := some q })
    | .poll :: rest => if s.status.busy then blockAction s else .other (.next (s.afterInput rest))
    | .stopOnError :: rest => .other (.next (s.afterInput (if s.status.err then [] else rest)))

/-! ## The host's sequences -/

/-- The start-up sequence of one walk (spec/70_reset_and_hazards.md R293): configuration, START, and polling STATUS
until the walk has ended (R304). -/
def walkScript (imgBase : Word) (imgLen : Wide) (pair : Word × Word) : List Input :=
  [.write 2 imgBase, .write 3 (imgLen.setWidth 32), .write 4 ((imgLen.extractLsb' 32 1).setWidth 32),
   .write 0 pair.1, .write 1 pair.2, .write 5 1, .poll, .read 6]

/-- The host's work over the TTBR pairs of its NCPU CPUs, in CPU order (spec/60_exceptions.md R273). After a failed walk
it goes on, with a reset first, or stops (R259, R262): the parameter HOST_CONTINUE_AFTER_ERROR. -/
def hostScript (imgBase : Word) (imgLen : Wide) (continueAfterError : Bool) : List (Word × Word) → List Input
  | [] => []
  | pair :: rest =>
    walkScript imgBase imgLen pair ++ (if continueAfterError then [.reset] else [.stopOnError])
      ++ hostScript imgBase imgLen continueAfterError rest

end Sys2Proof.Machine
end

