-- ==== Sys2Proof/Machine/Fetch.lean ====
section
/-! DEFINITION. Placing a bare table word where the next step takes its instruction from (log entries 15 and 16). -/

namespace Sys2Proof.Machine

/-- A walk is in progress in L1_DECODE with this first-level descriptor. -/
def placeL1 (w : Word) (s : State) : State :=
  { s with l1d := w, st := .l1Decode, status := { s.status with busy := true }, flush := .idle, direct := none,
           inputs := [] }

/-- A decoder is presented with this operand. -/
def placeQuery (q : AttrQuery) (s : State) : State := { s with direct := some q }

/-- The word placed in the reading that the decoder gives it (`tableFormat`). -/
def placeTableWord (s : State) (nbits w : Nat) : State :=
  match tableFormat nbits w with
  | some .L1 => placeL1 (BitVec.ofNat 32 w) s
  | some .AP3 => placeQuery (.ap (BitVec.ofNat 3 w)) s
  | some .TEXCB5 => placeQuery (.texcb (BitVec.ofNat 5 w)) s
  | some .CACHE2 => placeQuery (.cache (BitVec.ofNat 2 w)) s
  | some .XN1 => placeQuery (.xn (BitVec.ofNat 1 w)) s
  | _ => s

end Sys2Proof.Machine
end

