-- ==== Sys2Proof/Machine/Step.lean ====
section
/-! DEFINITION. One step of the machine. -/

namespace Sys2Proof.Machine

/-- One step. A word that is no instruction can only be a CTRL write without a command, which has no effect (R27). -/
def step (s : State) : Host.Outcome State Fault Refusal :=
  match nextAction s with
  | .run e s' =>
    match decode e with
    | .ok i => exec i s'
    | .error _ => .next s'
  | .other o => o

/-- The state in which the very next step runs the instruction of a bare table word. A program comes to run from
State.reset only through the host: it loads an image, writes the configuration and gives START (log entry 16). -/
def State.withFetchWord (s : State) (nbits w : Nat) : State := placeTableWord s nbits w

end Sys2Proof.Machine
end

