-- ==== Sys2Proof/Machine/BigStep.lean ====
section
/-! DEFINITION. The same walk as a function, written from the spec's big-step definition on raw descriptor words
(spec/40_table_walker.md R152, spec/30_encoding.md R104, spec/43_attribute_decoders.md R210 to R215,
spec/44_range_coalescer.md R232 to R236). The step machine does not call it: it is the second design that statements
compare the machine with. -/

namespace Sys2Proof.Machine.BigStep

/-! ## Fields and addresses of raw words -/

/-- `ap_sec` (R104). -/
def apSec (d1 : Word) : BitVec 3 := (d1.extractLsb' 10 2).setWidth 3 ||| (d1.extractLsb' 15 1).setWidth 3 <<< 2

/-- `texcb_sec` (R104). -/
def texcbSec (d1 : Word) : BitVec 5 := (d1.extractLsb' 2 2).setWidth 5 ||| (d1.extractLsb' 12 3).setWidth 5 <<< 2

/-- `xn_sec` (R104). -/
def xnSec (d1 : Word) : BitVec 1 := d1.extractLsb' 4 1

/-- `ap_l2` (R104). -/
def apL2 (d2 : Word) : BitVec 3 := (d2.extractLsb' 4 2).setWidth 3 ||| (d2.extractLsb' 9 1).setWidth 3 <<< 2

/-- `texcb_large` (R104). -/
def texcbLarge (d2 : Word) : BitVec 5 := (d2.extractLsb' 2 2).setWidth 5 ||| (d2.extractLsb' 12 3).setWidth 5 <<< 2

/-- `xn_large` (R104). -/
def xnLarge (d2 : Word) : BitVec 1 := d2.extractLsb' 15 1

/-- `texcb_small` (R104). -/
def texcbSmall (d2 : Word) : BitVec 5 := (d2.extractLsb' 2 2).setWidth 5 ||| (d2.extractLsb' 6 3).setWidth 5 <<< 2

/-- `xn_small` (R104). -/
def xnSmall (d2 : Word) : BitVec 1 := d2.extractLsb' 0 1

/-- `l2_addr` on the descriptor word (R142). -/
def l2AddrWord (d1 va : Word) : Word := (d1 &&& 0xFFFFFC00) ||| ((va >>> 10) &&& 0x3FC)

/-- `pa_sec` (R146). -/
def paSec (d1 va : Word) : PAddr := ((d1 &&& 0xFFF00000) ||| (va &&& 0x000FFFFF)).setWidth 40

/-- `pa_ssec` (R146). -/
def paSsec (d1 va : Word) : PAddr :=
  (d1.extractLsb' 5 4).setWidth 40 <<< 36 ||| (d1.extractLsb' 20 4).setWidth 40 <<< 32
    ||| (d1 &&& 0xFF000000).setWidth 40 ||| (va &&& 0x00FFFFFF).setWidth 40

/-- `pa_large` (R146). -/
def paLargeWord (d2 va : Word) : PAddr := ((d2 &&& 0xFFFF0000) ||| (va &&& 0x0000FFFF)).setWidth 40

/-- `pa_small` (R146). -/
def paSmallWord (d2 va : Word) : PAddr := ((d2 &&& 0xFFFFF000) ||| (va &&& 0x00000FFF)).setWidth 40

/-! ## The walk -/

/-- What a walk reads: the image and its window (spec/00_scope.md R12). -/
structure Window where
  image : Memory
  imgBase : Word
  imgLen : Wide
deriving DecidableEq, Repr

/-- `MemRead(a, 4)` over the window (R63). -/
def Window.read (win : Window) (a : Word) : Option Word := memRead win.image win.imgBase win.imgLen a

/-- The three outcomes of a granule (R134). -/
inductive Resolved where
  | skip
  | entry (e : MappingEntry)
  | fatal (e : ErrInfo)
deriving DecidableEq, Repr

/-- The second level of `resolve` (R152): the word of a second-level descriptor. -/
def resolveL2 (d2 va : Word) : Resolved :=
  if d2.extractLsb' 0 2 = 0 then .skip
  else if d2.extractLsb' 0 2 = 1 then .entry ⟨va, paLargeWord d2 va, apL2 d2, texcbLarge d2, xnLarge d2⟩
  else .entry ⟨va, paSmallWord d2 va, apL2 d2, texcbSmall d2, xnSmall d2⟩

/-- The first level of `resolve` (R152): the word `d1` of a first-level descriptor fetched from `l1a`. -/
def resolveL1 (win : Window) (l1a d1 va : Word) : Resolved :=
  if d1.extractLsb' 0 2 = 0 ∨ d1.extractLsb' 0 2 = 3 then .skip
  else if d1.extractLsb' 0 2 = 1 then
    if d1.extractLsb' 1 4 ≠ 0 then .fatal (.malformed va l1a d1)
    else
      match win.read (l2AddrWord d1 va) with
      | none => .fatal (.outOfBounds 1 va (l2AddrWord d1 va))
      | some d2 => resolveL2 d2 va
  else if d1.getLsbD 18 then .entry ⟨va, paSsec d1 va, apSec d1, texcbSec d1, xnSec d1⟩
  else .entry ⟨va, paSec d1 va, apSec d1, texcbSec d1, xnSec d1⟩

/-- `resolve` (R134, R152): a granule on its own. -/
def resolve (win : Window) (tbl : BitVec 1) (ttbr va : Word) : Resolved :=
  match win.read (l1Addr tbl ttbr va) with
  | none => .fatal (.outOfBounds 0 va (l1Addr tbl ttbr va))
  | some d1 => resolveL1 win (l1Addr tbl ttbr va) d1 va

/-- Stream items, and the fatal error that ends them, if any, with the table index of its pass. -/
structure Stream where
  items : List StreamItem
  error : Option (BitVec 1 × ErrInfo)
deriving DecidableEq, Repr

/-- The loop of `pass` (R152): `n` granules from `va` on, then the end-of-pass item (R111). -/
def scanFrom (win : Window) (tbl : BitVec 1) (ttbr : Word) : Nat → Wide → Stream
  | 0, _ => ⟨[.endOfPass tbl], none⟩
  | n + 1, va =>
    if route va = tbl then
      match resolve win tbl ttbr (va32 va) with
      | .skip => scanFrom win tbl ttbr n (va + granule)
      | .fatal e => ⟨[], some (tbl, e)⟩
      | .entry e =>
        ⟨.entry e :: (scanFrom win tbl ttbr n (va + granule)).items, (scanFrom win tbl ttbr n (va + granule)).error⟩
    else scanFrom win tbl ttbr n (va + granule)

/-- 2^22: the granules of the virtual address space (R135). -/
def granulesPerPass : Nat := 0x400000

/-- `pass` (R152): 2^22 granules from 0, or nothing but the end-of-pass item when the root is absent (R24, R132). -/
def passStream (win : Window) (tbl : BitVec 1) (ttbr : Word) : Stream :=
  if ttbr = 0 then ⟨[.endOfPass tbl], none⟩ else scanFrom win tbl ttbr granulesPerPass 0

/-- `walk` (R131, R152): pass 0, then pass 1 if pass 0 ended normally. -/
def walkStream (win : Window) (ttbr0 ttbr1 : Word) : Stream :=
  match (passStream win 0 ttbr0).error with
  | some e => ⟨(passStream win 0 ttbr0).items, some e⟩
  | none =>
    ⟨(passStream win 0 ttbr0).items ++ (passStream win 1 ttbr1).items, (passStream win 1 ttbr1).error⟩

/-! ## The decoders as pure functions (R210 to R215); none: the reserved failure -/

/-- `decode_ap` (R210, R211). -/
def decodeAp (ap : BitVec 3) : Option AccessLabel :=
  if ap = 0b001 then some .privilegedReadWrite
  else if ap = 0b101 then some .privilegedReadOnly
  else if ap = 0b011 then some .readWrite
  else none

/-- `decode_texcb` (R212, R213). -/
def decodeTexcb (t : BitVec 5) : Option CacheLabel :=
  if t.getLsbD 4 then some (.cached (cacheability (t.extractLsb' 2 2)) (cacheability (t.extractLsb' 0 2)))
  else if t = 0b00001 then some .device
  else if t = 0b00000 then some .stronglyOrdered
  else none

/-- `decode_xn` (R215). -/
def decodeXn (xn : BitVec 1) : Bool := xn == 1

/-! ## The coalescer -/

/-- The flush of a range (R235): the labels, or the first decode error. -/
def flushRange (c : Accumulator) : Except ErrInfo MergedRange :=
  match decodeTexcb c.texcb with
  | none => .error (.reservedTEXCB c.vstart c.texcb)
  | some label =>
    match decodeAp c.ap with
    | none => .error (.reservedAP c.vstart c.ap)
    | some p => .ok (c.merged label p (decodeXn c.xn))

/-- One item (R230): the accumulator after it, and the range it causes to be emitted. -/
def coalesceOne (c : Accumulator) (item : StreamItem) : Except ErrInfo (Accumulator × List MergedRange) :=
  match item with
  | .entry e =>
    if c.extendedBy e then .ok (c.extend, [])
    else if c.valid then (flushRange c).map fun r => (Accumulator.startedBy e, [r])
    else .ok (Accumulator.startedBy e, [])
  | .endOfPass _ =>
    if c.valid then (flushRange c).map fun r => (c.emptied, [r])
    else .ok (c.emptied, [])

/-- What a walk delivers: the items taken, the ranges emitted, and the fatal error that ended it, if any. -/
structure Result where
  items : List StreamItem
  ranges : List MergedRange
  error : Option (BitVec 1 × ErrInfo)
deriving DecidableEq, Repr

/-- The coalescer over a stream (R230, R256): an item that raises a decode error has been taken, nothing after it is.
`tbl` is the table index of the pass the items belong to. -/
def coalesceStream : BitVec 1 → Accumulator → List StreamItem → Option (BitVec 1 × ErrInfo) → Result
  | _, _, [], err => ⟨[], [], err⟩
  | tbl, c, item :: rest, err =>
    match coalesceOne c item with
    | .error e => ⟨[item], [], some (tbl, e)⟩
    | .ok (c', rs) =>
      let next := match item with
        | .entry _ => coalesceStream tbl c' rest err
        | .endOfPass _ => coalesceStream 1 c' rest err
      ⟨item :: next.items, rs ++ next.ranges, next.error⟩

/-- What a walk of a TTBR pair delivers, with and without the coalescer (R4, R152, R256). -/
def walkResult (coalescer : Bool) (win : Window) (ttbr0 ttbr1 : Word) : Result :=
  if coalescer then
    coalesceStream 0 Accumulator.zero (walkStream win ttbr0 ttbr1).items (walkStream win ttbr0 ttbr1).error
  else ⟨(walkStream win ttbr0 ttbr1).items, [], (walkStream win ttbr0 ttbr1).error⟩

/-! ## Coalescing as a function on lists of entries (R240) -/

/-- The ranges, before their attributes are decoded, of the entries of one pass: the accumulator at each flush, the
last flush being that of the end of the pass (R232 to R236). -/
def rawRangesFrom : Accumulator → List MappingEntry → List Accumulator
  | c, [] => if c.valid then [c] else []
  | c, e :: rest =>
    if c.extendedBy e then rawRangesFrom c.extend rest
    else if c.valid then c :: rawRangesFrom (Accumulator.startedBy e) rest
    else rawRangesFrom (Accumulator.startedBy e) rest

/-- The raw ranges of a pass, from an empty accumulator (R240). -/
def rawRanges (es : List MappingEntry) : List Accumulator := rawRangesFrom Accumulator.zero es

/-- The entry that granule `k` of a raw range stands for (R240 (a)). -/
def expandAt (c : Accumulator) (k : Nat) : MappingEntry :=
  { virtualAddress := c.vstart + BitVec.ofNat 32 (1024 * k)
    physicalAddress := ((c.vstart + BitVec.ofNat 32 (1024 * k)).setWidth 41 + c.off).setWidth 40
    accessPermission := c.ap
    cacheAttrs := c.texcb
    executeNever := c.xn }

/-- A raw range expanded back into entries, one per 1024 bytes (R240 (a)). -/
def expand (c : Accumulator) : List MappingEntry := (List.range (c.size.toNat / 1024)).map (expandAt c)

end Sys2Proof.Machine.BigStep
end

