-- ==== Sys2Proof/Safety.lean ====
section
/-! DEFINITION. What a consistent state of the block is, and what it is for a walk to have ended. `Consistent` rules out
the states no run reaches; it is stated as an invariant of its own. -/

namespace Sys2Proof.Machine

/-- The states of a walk in progress (spec/10_state.md R28, spec/40_table_walker.md R151). -/
def WalkState.running : WalkState → Bool
  | .idle | .done | .error => false
  | .passStart | .route | .l1Fetch | .l1Decode | .l2Fetch | .l2Decode | .emit | .advance | .passEnd => true

/-- The states in which a granule address is being worked on. -/
def WalkState.scanning : WalkState → Bool
  | .route | .l1Fetch | .l1Decode | .l2Fetch | .l2Decode | .emit | .advance => true
  | .idle | .passStart | .passEnd | .done | .error => false

/-- The states in which a granule routed to this pass is being looked up. -/
def WalkState.probing : WalkState → Bool
  | .l1Fetch | .l1Decode | .l2Fetch | .l2Decode | .emit => true
  | .idle | .passStart | .route | .advance | .passEnd | .done | .error => false

/-- The window of the walk in progress (R39). -/
def State.window (s : State) : BigStep.Window := ⟨s.image, s.snap.imgBase, s.snap.imgLen⟩

/-- The root of the pass in progress. -/
def State.root (s : State) : Word := s.snap.root s.tbl

/-- The block waits for a flush that this item caused (spec/44_range_coalescer.md R234, R236). -/
def WaitsOn (s : State) (item : StreamItem) : Prop :=
  s.coalescer = true ∧ s.cur.valid = true ∧ s.entKind = .none ∧
  match item with
  | .entry e => s.st = .emit ∧ s.cur.extendedBy e = false ∧ e.virtualAddress = va32 s.va
  | .endOfPass t => s.st = .passEnd ∧ t = s.tbl

/-- A flush holds the labels of the range in the accumulator (R235). -/
def FlushOk (s : State) : Prop :=
  match s.flush with
  | .idle => True
  | .texcb item => WaitsOn s item
  | .ap item c => WaitsOn s item ∧ BigStep.decodeTexcb s.cur.texcb = some c
  | .xn item c p =>
    WaitsOn s item ∧ BigStep.decodeTexcb s.cur.texcb = some c ∧ BigStep.decodeAp s.cur.ap = some p
  | .emit item c p x =>
    WaitsOn s item ∧ BigStep.decodeTexcb s.cur.texcb = some c ∧ BigStep.decodeAp s.cur.ap = some p ∧
      BigStep.decodeXn s.cur.xn = x

/-- The range in the accumulator lies in the routed part of its pass, in whole granules (spec/10_state.md R40,
spec/44_range_coalescer.md R241). -/
def RangeOk (s : State) : Prop :=
  s.coalescer = true ∧ 0 < s.cur.size.toNat ∧ s.cur.size.toNat % 1024 = 0 ∧ s.cur.vstart.toNat % 1024 = 0 ∧
  s.cur.vstart.toNat + s.cur.size.toNat ≤ 0x100000000 ∧
  (s.tbl = 0 → s.cur.vstart.toNat + s.cur.size.toNat ≤ 0x02000000) ∧
  (s.tbl = 1 → 0x02000000 ≤ s.cur.vstart.toNat)

/-- What every state that a run reaches satisfies. -/
structure Consistent (s : State) : Prop where
  /-- The image is in its canonical form. -/
  image_wf : s.image.wf = true
  /-- `va` is a multiple of 1024 and at most 2^32 (R33). -/
  va_aligned : s.va.toNat % 1024 = 0
  va_le : s.va.toNat ≤ 0x100000000
  /-- BUSY while a walk runs, ERR in ERROR, DONE in DONE (R28). -/
  busy_iff : s.status.busy = s.st.running
  err_iff : s.status.err = true ↔ s.st = .error
  done_iff : s.status.done = true ↔ s.st = .done
  /-- The codes the block produces (R250, R251). -/
  err_code : s.status.err = true →
    s.status.errCode = 2 ∨ s.status.errCode = 3 ∨ s.status.errCode = 4 ∨ s.status.errCode = 5
  /-- A level other than 0 belongs to a second-level fetch (R28, R250). -/
  err_lvl : s.status.errLvl = 1 → s.status.errCode = 2
  /-- Without an error the error fields are zero (spec/93_implementation_defined.md U19). -/
  no_err : s.status.err = false →
    s.status.errCode = 0 ∧ s.status.errTbl = 0 ∧ s.status.errLvl = 0 ∧ s.errVa = 0 ∧ s.errAddr = 0 ∧ s.errData = 0
  /-- The configuration registers equal the snapshot for the whole walk (R300). -/
  snap_eq : s.status.busy = true → s.snap = s.cfg
  /-- A granule is worked on only below 2^32 and only under a present root (R33, R132). -/
  scanning_va : s.st.scanning = true → s.va.toNat < 0x100000000 ∧ s.root ≠ 0
  /-- Only granules of this pass are looked up (R133). -/
  probing_routed : s.st.probing = true → route s.va = s.tbl
  /-- What is on offer, and when (R38, R147, R149). -/
  offer_entry : s.entKind = .entry → s.st = .emit ∧ s.flush = .idle ∧ s.ent.virtualAddress = va32 s.va
  offer_end : s.entKind = .endOfPass → s.st = .passEnd ∧ s.flush = .idle ∧ s.entTbl = s.tbl
  offer_some : (s.st = .emit ∨ s.st = .passEnd) → s.flush = .idle → s.entKind ≠ .none
  /-- An entry on offer is the resolution of its granule (R134). -/
  offer_resolved : s.entKind = .entry → BigStep.resolve s.window s.tbl s.root (va32 s.va) = .entry s.ent
  flush_ok : FlushOk s
  cur_ok : s.cur.valid = true → RangeOk s
  /-- No range is carried into a pass (R130, R236). -/
  cur_fresh : s.st = .idle ∨ s.st = .passStart ∨ s.st = .done → s.cur.valid = false
  /-- The accumulator's pass-start value (R40). -/
  cur_pass_start : s.st = .passStart → s.cur = Accumulator.zero
  /-- The first-level latches are those of this granule (R35). -/
  l1_latched : s.st = .l1Decode ∨ s.st = .l2Fetch ∨ s.st = .l2Decode →
    s.l1a = l1Addr s.tbl s.root (va32 s.va) ∧ fetchWord s s.l1a = some s.l1d
  /-- The second level is reached only under a well-formed Page Table descriptor (R141). -/
  l1_page_table : s.st = .l2Fetch ∨ s.st = .l2Decode → s.l1d.extractLsb' 0 5 = 1
  /-- The second-level latches are those of this granule (R36). -/
  l2_latched : s.st = .l2Decode → s.l2a = l2AddrNow s ∧ fetchWord s s.l2a = some s.l2d

/-! ## Kinds of instructions -/

/-- The rows whose rule names a fatal error: malformed Page Table descriptors (R172), reserved values (R211, R213). -/
def failingRow : Instr → Bool
  | .l1PageTableMalformedBit2 _ | .l1PageTableMalformedBit3 _ | .l1PageTableMalformedBit4 _
  | .ap000Reserved | .ap010Reserved | .ap100Reserved | .ap110Reserved | .ap111Reserved
  | .texcbReserved02 _ | .texcbReserved04 _ | .texcbReserved08 _ => true
  | .l1Fault _ | .l1PageTable _ | .l1Section _ | .l1Supersection _ | .l1Reserved _ | .l2Fault _ | .l2LargePage _
  | .l2SmallPage _ | .ap001 | .ap011 | .ap101 | .texcbStronglyOrdered | .texcbDevice | .texcbCached _ _
  | .cache00 | .cache01 | .cache10 | .cache11 | .xn0 | .xn1 | .start _ => false

/-- The rows whose rule forms a Mapping Entry (R173, R174, R191, R192). -/
def mappingRow : Instr → Bool
  | .l1Section _ | .l1Supersection _ | .l2LargePage _ | .l2SmallPage _ => true
  | .l1Fault _ | .l1PageTable _ | .l1PageTableMalformedBit2 _ | .l1PageTableMalformedBit3 _
  | .l1PageTableMalformedBit4 _ | .l1Reserved _ | .l2Fault _ | .ap000Reserved | .ap001 | .ap010Reserved | .ap011
  | .ap100Reserved | .ap101 | .ap110Reserved | .ap111Reserved | .texcbStronglyOrdered | .texcbDevice
  | .texcbCached _ _ | .texcbReserved02 _ | .texcbReserved04 _ | .texcbReserved08 _
  | .cache00 | .cache01 | .cache10 | .cache11 | .xn0 | .xn1 | .start _ => false

/-! ## The situations that statements are about -/

/-- Nothing is pending from outside: no decoder operand and no input. -/
def State.quiet (s : State) : Prop := s.direct = none ∧ s.inputs = []

/-- The next move is the walk state machine's, and it is in state `w`. -/
def State.turn (s : State) (w : WalkState) : Prop := s.quiet ∧ s.flush = .idle ∧ s.st = w

/-- The block waits for a party outside that is not ready (spec/70_reset_and_hazards.md R303,
spec/93_implementation_defined.md U10, U11; log entry 24): an item nobody takes, a Merged Range the host does not take,
or a fetch the memory port does not answer. -/
def State.stalled (s : State) : Prop :=
  (s.consumerReady = false ∧ s.coalescer = false ∧ s.flush = .idle ∧ (s.st = .emit ∨ s.st = .passEnd) ∧
    s.entKind ≠ .none) ∨
  (s.consumerReady = false ∧ ∃ item c p x, s.flush = .emit item c p x) ∨
  (s.memoryReady = false ∧ s.flush = .idle ∧ (s.st = .l1Fetch ∨ s.st = .l2Fetch))

/-- The host's next act is `i`, with `rest` to follow. -/
def State.hostActs (s : State) (i : Input) (rest : List Input) : Prop := s.direct = none ∧ s.inputs = i :: rest

/-- No walk runs and none has failed: START is accepted (R130). -/
def State.startable (s : State) : Prop := s.status.busy = false ∧ s.status.err = false ∧ s.flush = .idle

/-- The walk has ended: `STATUS.DONE = 1` or `STATUS.ERR = 1` (R150). -/
def State.walkEnded (s : State) : Bool := s.status.done || s.status.err

/-- Every register holds its reset value (R44; the entry's zeros are log entry 5). -/
def State.hasResetValues (t : State) : Prop :=
  t.cfg.ttbr0 = 0 ∧ t.cfg.ttbr1 = 0 ∧ t.cfg.imgBase = 0 ∧ t.cfg.imgLen = 0 ∧ t.status.word = 0 ∧
  t.errVa = 0 ∧ t.errAddr = 0 ∧ t.errData = 0 ∧ t.st = .idle ∧ t.tbl = 0 ∧ t.va = 0 ∧
  t.l1a = 0 ∧ t.l1d = 0 ∧ t.l2a = 0 ∧ t.l2d = 0 ∧ t.dom = 0 ∧ t.entKind = .none ∧
  t.ent.virtualAddress = 0 ∧ t.ent.physicalAddress = 0 ∧ t.ent.accessPermission = 0 ∧ t.ent.cacheAttrs = 0 ∧
  t.ent.executeNever = 0 ∧ t.entTbl = 0 ∧
  t.snap.ttbr0 = 0 ∧ t.snap.ttbr1 = 0 ∧ t.snap.imgBase = 0 ∧ t.snap.imgLen = 0 ∧
  t.cur.valid = false ∧ t.cur.vstart = 0 ∧ t.cur.size = 0 ∧ t.cur.off = 0 ∧ t.cur.ap = 0 ∧ t.cur.xn = 0 ∧
  t.cur.texcb = 0

/-- How a walk that began in `s` stands in `t` when it has delivered `r` and ended (R148, R150, R152, R258): what was
delivered, the status and the error registers. -/
def Delivers (s t : State) (r : BigStep.Result) : Prop :=
  t.items = s.items ++ r.items ∧ t.ranges = s.ranges ++ r.ranges ∧
  match r.error with
  | none =>
    t.st = .done ∧ t.status = s.status.started.finished ∧
      t.errVa = s.errVa ∧ t.errAddr = s.errAddr ∧ t.errData = s.errData
  | some (tbl, e) =>
    t.st = .error ∧ t.status = s.status.started.failed e.code tbl e.lvl ∧
      t.errVa = e.va ∧ t.errAddr = e.addr ∧ t.errData = e.data

end Sys2Proof.Machine
end

