-- ==== Sys2Proof/Certificates/Slice0/Obligations.lean ====
section
/-! DEFINITION. The statements for the provers. OBLIGATIONS.json lists them with the rules they rest on. -/

section

open Sys2Proof Sys2Proof.Machine

/-! ## Encoding -/

/-- Decoding what the encoder writes gives the instruction back, with every operand at every value (R94 to R101,
R105 to R108; R116 "decoding a constructed word returns the arguments"). -/
def Obligations.DecodeOfEncode : Prop :=
  ∀ i : Instr, i.wf = true → decode (encode i) = .ok i

/-- Whatever the decoder accepts is a well-formed instruction whose encoding is the very word decoded: no bit, an
ignored bit included, is lost (R102). -/
def Obligations.EncodeOfDecode : Prop :=
  ∀ (e : Encoded) (i : Instr), decode e = .ok i → i.wf = true ∧ encode i = e

/-- An instruction laid out as bytes, lowest address first (R62), is read back, and the bytes after it are left. -/
def Obligations.DecodeOfBytes : Prop :=
  ∀ (i : Instr) (rest : List Byte), i.wf = true →
    decodeBytes (encode i).format ((encode i).bytes ++ rest) = .ok (i, rest)

/-- Decoding is total on descriptors and attribute values, what is decoded lies in its own row of
spec/opcode_table.json, and in no other (R91, R92, R98). -/
def Obligations.OneRowPerWord : Prop :=
  (∀ e : Encoded, e.format ≠ .CTRL → ∃ i, decode e = .ok i) ∧
  ∀ (e : Encoded) (i : Instr), decode e = .ok i →
    i.row.accepts e = true ∧ ∀ j : Instr, j.row.accepts e = true → j.row = i.row

/-- Words written out from the formats of R94 to R101, one or more of every format. -/
def Obligations.SpecWordsDecode : Prop :=
  decode (.l1 0x12345678) = .ok (.l1Fault 0x048D159E) ∧
  decode (.l1 0xE00009E1) = .ok (.l1PageTable ⟨0x380002, 0, 15, 0⟩) ∧
  decode (.l1 0xE0000C09) = .ok (.l1PageTableMalformedBit3 ⟨0x380003, 0, 0, 2⟩) ∧
  decode (.l1 0xC000F41A) = .ok (.l1Section ⟨0xC00, 0, 0, 1, 7, 1, 0, 1, 2⟩) ∧
  decode (.l1 0x80A404B2) = .ok (.l1Supersection ⟨0x80, 0xA, 0, 0, 0, 0, 1, 0, 5, 1, 0⟩) ∧
  decode (.l2 0x1234D219) = .ok (.l2LargePage ⟨0x1234, 1, 5, 0, 1, 0, 1, 2⟩) ∧
  decode (.l2 0xE0001016) = .ok (.l2SmallPage ⟨0xE0001, 0, 0, 0, 1, 1, 0⟩) ∧
  decode (.ap 0b101) = .ok .ap101 ∧
  decode (.texcb 0b11110) = .ok (.texcbCached 3 2) ∧
  decode (.cache 0b10) = .ok .cache10 ∧
  decode (.xn 1) = .ok .xn1 ∧
  decode (.ctrl 1) = .ok (.start 0)

/-- The ignored bits of R93 to R97 and R99 to R101 have no effect (R102): two words of one class that differ only in
them do the same, and a Page Table word's ignored bit does not reach the second-level address either (R142). The bits of a
Malformed word are left out: the whole word is recorded in ERR_DATA (R172). -/
def Obligations.IgnoredBitsHaveNoEffect : Prop :=
  (∀ (d m : Word) (s : State),
    ((d.extractLsb' 0 2 = 0 ∨ d.extractLsb' 0 2 = 3) ∧ m &&& 0x00000003 = 0) ∨
    (d.extractLsb' 0 2 = 1 ∧ d.extractLsb' 1 4 = 0 ∧ m &&& 0xFFFFFDFF = 0) ∨
    (d.extractLsb' 0 2 = 2 ∧ d.getLsbD 18 = false ∧ m &&& 0xFFF4FC1F = 0) ∨
    (d.extractLsb' 0 2 = 2 ∧ d.getLsbD 18 = true ∧ m &&& 0xFFF4FDFF = 0) →
      exec (decodeL1 (d ^^^ m)) s = exec (decodeL1 d) s) ∧
  (∀ (d m : Word) (s : State),
    (d.extractLsb' 0 2 = 0 ∧ m &&& 0x00000003 = 0) ∨
    (d.extractLsb' 0 2 = 1 ∧ m &&& 0xFFFFF23F = 0) ∨
    (d.getLsbD 1 = true ∧ m &&& 0xFFFFF3FF = 0) →
      exec (decodeL2 (d ^^^ m)) s = exec (decodeL2 d) s) ∧
  (∀ (d m : Word) (s : State), m &&& 0xFFFFFDFF = 0 →
    l2AddrNow { s with l1d := d ^^^ m } = l2AddrNow { s with l1d := d })

/-! ## First-level and second-level descriptors -/

/-- R170, R175, R190: a Fault or Reserved descriptor skips the granule, and bits [31:2] have no effect. -/
def Obligations.FaultClassesSkip : Prop :=
  ∀ (d : Word) (s : State),
    (d.extractLsb' 0 2 = 0 →
      decode (.l1 d) = .ok (.l1Fault (d.extractLsb' 2 30)) ∧
      exec (.l1Fault (d.extractLsb' 2 30)) s = .next { s with st := .advance }) ∧
    (d.extractLsb' 0 2 = 3 →
      decode (.l1 d) = .ok (.l1Reserved (d.extractLsb' 2 30)) ∧
      exec (.l1Reserved (d.extractLsb' 2 30)) s = .next { s with st := .advance }) ∧
    (d.extractLsb' 0 2 = 0 →
      decode (.l2 d) = .ok (.l2Fault (d.extractLsb' 2 30)) ∧
      exec (.l2Fault (d.extractLsb' 2 30)) s = .next { s with st := .advance })

/-- R140, R171: the domain is latched, the second-level fetch follows, and nothing else changes. The second-level
address that R171 forms is written in L2_FETCH only (R36, R143): that it is latched by the next move, and with that
value even where the read then fails, is the model's reading (log entries 6 and 7). -/
def Obligations.PageTableDescends : Prop :=
  ∀ (d : Word) (s : State), d.extractLsb' 0 2 = 1 → d.extractLsb' 1 4 = 0 →
    decode (.l1 d) = .ok (.l1PageTable (pageTableFieldsOf d)) ∧
    exec (.l1PageTable (pageTableFieldsOf d)) s =
      .next { s with dom := d.extractLsb' 5 4, st := .l2Fetch } ∧
    (s.turn .l1Decode → s.l1d = d → s.memoryReady = true →
      ∃ t, Host.Core.run core 2 s = .next t ∧
        t.l2a = (d &&& 0xFFFFFC00) ||| ((va32 s.va >>> 10) &&& 0x3FC) ∧ t.dom = d.extractLsb' 5 4 ∧
        t.items = s.items)

/-- R172 with the fatal transition of R258, in the state L1_DECODE with no flush running: code 3, level 0, the granule
address, the address fetched from and the descriptor word are recorded; no second-level address is formed. Each of
the three rows of the table stands for its words. -/
def Obligations.MalformedPageTableStops : Prop :=
  ∀ (d : Word) (s : State), d.extractLsb' 0 2 = 1 → d.extractLsb' 1 4 ≠ 0 → s.st = .l1Decode → s.flush = .idle →
    ∃ i, decode (.l1 d) = .ok i ∧
      (i = .l1PageTableMalformedBit2 (pageTableFieldsOf d) ∧ d.getLsbD 2 = true ∨
       i = .l1PageTableMalformedBit3 (pageTableFieldsOf d) ∧ d.getLsbD 2 = false ∧ d.getLsbD 3 = true ∨
       i = .l1PageTableMalformedBit4 (pageTableFieldsOf d) ∧ d.getLsbD 2 = false ∧ d.getLsbD 3 = false ∧
        d.getLsbD 4 = true) ∧
      exec i s =
        .next { s with
          status := { s.status with err := true, errCode := 3, errTbl := s.tbl, errLvl := 0, busy := false }
          errVa := va32 s.va
          errAddr := s.l1a
          errData := d
          entKind := .none
          st := .error }

/-- R173: the entry of a Section. That the holding register is filled by the step that enters EMIT is the model's
reading (log entry 4). -/
def Obligations.SectionEntry : Prop :=
  ∀ (d : Word) (s : State), d.extractLsb' 0 2 = 2 → d.getLsbD 18 = false →
    decode (.l1 d) = .ok (.l1Section (sectionFieldsOf d)) ∧
    exec (.l1Section (sectionFieldsOf d)) s =
      .next { s with
        ent :=
          { virtualAddress := va32 s.va
            physicalAddress := ((d &&& 0xFFF00000) ||| (va32 s.va &&& 0x000FFFFF)).setWidth 40
            accessPermission := (d.extractLsb' 10 2).setWidth 3 ||| (d.extractLsb' 15 1).setWidth 3 <<< 2
            cacheAttrs := (d.extractLsb' 2 2).setWidth 5 ||| (d.extractLsb' 12 3).setWidth 5 <<< 2
            executeNever := d.extractLsb' 4 1 }
        entKind := .entry
        st := .emit }

/-- R174: the entry of a Supersection, whose physical address is the concatenation EXT2 : EXT1 : base : offset. That
EXT2 is the upper field rests on G9 (log entry 17); the time of filling the holding register on log entry 4. -/
def Obligations.SupersectionEntry : Prop :=
  ∀ (d : Word) (s : State), d.extractLsb' 0 2 = 2 → d.getLsbD 18 = true →
    decode (.l1 d) = .ok (.l1Supersection (supersectionFieldsOf d)) ∧
    exec (.l1Supersection (supersectionFieldsOf d)) s =
      .next { s with
        ent :=
          { virtualAddress := va32 s.va
            physicalAddress :=
              (d.extractLsb' 5 4).setWidth 40 <<< 36 ||| (d.extractLsb' 20 4).setWidth 40 <<< 32
                ||| (d &&& 0xFF000000).setWidth 40 ||| (va32 s.va &&& 0x00FFFFFF).setWidth 40
            accessPermission := (d.extractLsb' 10 2).setWidth 3 ||| (d.extractLsb' 15 1).setWidth 3 <<< 2
            cacheAttrs := (d.extractLsb' 2 2).setWidth 5 ||| (d.extractLsb' 12 3).setWidth 5 <<< 2
            executeNever := d.extractLsb' 4 1 }
        entKind := .entry
        st := .emit }

/-- R191: the entry of a Large Page (time of filling the holding register: log entry 4). -/
def Obligations.LargePageEntry : Prop :=
  ∀ (d : Word) (s : State), d.extractLsb' 0 2 = 1 →
    decode (.l2 d) = .ok (.l2LargePage (largePageFieldsOf d)) ∧
    exec (.l2LargePage (largePageFieldsOf d)) s =
      .next { s with
        ent :=
          { virtualAddress := va32 s.va
            physicalAddress := ((d &&& 0xFFFF0000) ||| (va32 s.va &&& 0x0000FFFF)).setWidth 40
            accessPermission := (d.extractLsb' 4 2).setWidth 3 ||| (d.extractLsb' 9 1).setWidth 3 <<< 2
            cacheAttrs := (d.extractLsb' 2 2).setWidth 5 ||| (d.extractLsb' 12 3).setWidth 5 <<< 2
            executeNever := d.extractLsb' 15 1 }
        entKind := .entry
        st := .emit }

/-- R192: the entry of a Small Page, recognised by bit 1 alone, bit 0 being execute-never (time of filling the holding
register: log entry 4). -/
def Obligations.SmallPageEntry : Prop :=
  ∀ (d : Word) (s : State), d.getLsbD 1 = true →
    decode (.l2 d) = .ok (.l2SmallPage (smallPageFieldsOf d)) ∧
    exec (.l2SmallPage (smallPageFieldsOf d)) s =
      .next { s with
        ent :=
          { virtualAddress := va32 s.va
            physicalAddress := ((d &&& 0xFFFFF000) ||| (va32 s.va &&& 0x00000FFF)).setWidth 40
            accessPermission := (d.extractLsb' 4 2).setWidth 3 ||| (d.extractLsb' 9 1).setWidth 3 <<< 2
            cacheAttrs := (d.extractLsb' 2 2).setWidth 5 ||| (d.extractLsb' 6 3).setWidth 5 <<< 2
            executeNever := d.extractLsb' 0 1 }
        entKind := .entry
        st := .emit }

/-- R145, R146: base and offset never overlap, so each physical address is the base field's multiple of the page size
plus the virtual address's offset in the page, and of a supersection the two extension fields above them. -/
def Obligations.PhysicalAddressArithmetic : Prop :=
  ∀ (d va : Word),
    (sectionEntry (sectionFieldsOf d) va).physicalAddress.toNat =
      d.toNat / 0x100000 * 0x100000 + va.toNat % 0x100000 ∧
    (supersectionEntry (supersectionFieldsOf d) va).physicalAddress.toNat =
      d.toNat / 0x20 % 16 * 0x1000000000 + d.toNat / 0x100000 % 16 * 0x100000000
        + d.toNat / 0x1000000 * 0x1000000 + va.toNat % 0x1000000 ∧
    (largePageEntry (largePageFieldsOf d) va).physicalAddress.toNat =
      d.toNat / 0x10000 * 0x10000 + va.toNat % 0x10000 ∧
    (smallPageEntry (smallPageFieldsOf d) va).physicalAddress.toNat =
      d.toNat / 0x1000 * 0x1000 + va.toNat % 0x1000

/-- R65, R66, R138, R142: for a granule routed to its table the descriptor addresses are table base plus four times the
index, base and index never overlapping, and always a multiple of 4. -/
def Obligations.DescriptorAddressArithmetic : Prop :=
  (∀ (ttbr va : Word), va.toNat < 0x02000000 →
    (l1Addr 0 ttbr va).toNat = ttbr.toNat / 128 * 128 + 4 * (va.toNat / 0x100000)) ∧
  (∀ (ttbr va : Word), (l1Addr 1 ttbr va).toNat = ttbr.toNat / 16384 * 16384 + 4 * (va.toNat / 0x100000)) ∧
  (∀ (d va : Word),
    (l2Addr (pageTableFieldsOf d).tableBase va).toNat = d.toNat / 1024 * 1024 + 4 * (va.toNat / 0x1000 % 256)) ∧
  (∀ (tbl : BitVec 1) (ttbr d va : Word),
    (l1Addr tbl ttbr va).toNat % 4 = 0 ∧ (l2Addr (pageTableFieldsOf d).tableBase va).toNat % 4 = 0)

/-- Every instruction completes in every state, and leaves alone what no rule of its gives it: always the configuration,
the scan counter, the latched addresses and fetched words, the image byte for byte, everything delivered and the
environment; the table index, the snapshot and the accumulator unless it is START; the domain unless it is
L1_PAGE_TABLE; the entry unless its row forms one; what is on offer unless its row forms an entry or names a fatal
error, or it is START; the status and the error registers unless its row names a fatal error, or it is START, which
leaves the error registers alone; the decoders' port unless it is an attribute value; the flush unless it is an attribute
value or names a fatal error; the walk state if it is an attribute value that names none. An attribute value that no
flush waits for, a reserved one included, touches nothing but the decoders' port (R36, R68, R102, R130, R176, R194,
R218, R258). -/
def Obligations.InstructionsCompleteWithFrame : Prop :=
  ∀ (i : Instr) (s : State), ∃ t, exec i s = .next t ∧
    t.cfg = s.cfg ∧ t.va = s.va ∧ t.l1a = s.l1a ∧ t.l1d = s.l1d ∧ t.l2a = s.l2a ∧ t.l2d = s.l2d ∧
    t.entTbl = s.entTbl ∧ (∀ k, t.image.byte k = s.image.byte k) ∧ t.coalescer = s.coalescer ∧
    t.consumerReady = s.consumerReady ∧ t.memoryReady = s.memoryReady ∧ t.items = s.items ∧ t.ranges = s.ranges ∧
    t.readLog = s.readLog ∧ t.inputs = s.inputs ∧
    ((∀ r, i ≠ .start r) → t.tbl = s.tbl ∧ t.snap = s.snap ∧ t.cur = s.cur) ∧
    ((∀ f, i ≠ .l1PageTable f) → t.dom = s.dom) ∧
    (mappingRow i = false → t.ent = s.ent) ∧
    (mappingRow i = false → failingRow i = false → (∀ r, i ≠ .start r) → t.entKind = s.entKind) ∧
    (failingRow i = false →
      t.errVa = s.errVa ∧ t.errAddr = s.errAddr ∧ t.errData = s.errData ∧ t.status.err = s.status.err ∧
        t.status.errCode = s.status.errCode ∧ t.status.errTbl = s.status.errTbl ∧ t.status.errLvl = s.status.errLvl ∧
        ((∀ r, i ≠ .start r) → t.status = s.status)) ∧
    ((encode i).format = .L1 ∨ (encode i).format = .L2 ∨ (encode i).format = .CTRL →
      t.direct = s.direct ∧ t.answers = s.answers ∧ (failingRow i = false → t.flush = s.flush)) ∧
    ((encode i).format ≠ .L1 → (encode i).format ≠ .L2 → (encode i).format ≠ .CTRL →
      (failingRow i = false → t.st = s.st) ∧
      (s.direct ≠ none ∨ s.flush = .idle → t = { s with direct := none, answers := t.answers }))

/-! ## Attribute decoders -/

/-- R210, R211 in a flush (R235; the division of a flush into steps is log entry 8): the three defined values give
their labels and lead to execute-never; the five reserved values take the fatal transition with code 4. -/
def Obligations.AccessValuesInFlush : Prop :=
  ∀ (s : State) (item : StreamItem) (c : CacheLabel), s.direct = none → s.flush = .ap item c →
    exec .ap001 s = .next { s with flush := .xn item c .privilegedReadWrite } ∧
    exec .ap101 s = .next { s with flush := .xn item c .privilegedReadOnly } ∧
    exec .ap011 s = .next { s with flush := .xn item c .readWrite } ∧
    AccessLabel.privilegedReadWrite.text = "privileged read-write" ∧
    AccessLabel.privilegedReadOnly.text = "privileged read-only" ∧ AccessLabel.readWrite.text = "read-write" ∧
    ∀ (i : Instr) (v : BitVec 3),
      (i, v) ∈ [(Instr.ap000Reserved, 0), (.ap010Reserved, 2), (.ap100Reserved, 4), (.ap110Reserved, 6),
        (.ap111Reserved, 7)] →
      exec i s =
        .next { s with
          status := { s.status with err := true, errCode := 4, errTbl := s.tbl, errLvl := 0, busy := false }
          errVa := s.cur.vstart
          errAddr := 0
          errData := v.setWidth 32
          entKind := .none
          flush := .idle
          st := .error }

/-- R212, R213 in a flush (R235; log entry 8): the 18 defined values lead to the access permission, with the label texts
of R106 and R115; every reserved value, 2 to 15, takes the fatal transition with code 5. The labels of a range are
rendered in the order of R114. -/
def Obligations.CacheValuesInFlush : Prop :=
  ∀ (s : State) (item : StreamItem), s.direct = none → s.flush = .texcb item →
    exec .texcbStronglyOrdered s = .next { s with flush := .ap item .stronglyOrdered } ∧
    exec .texcbDevice s = .next { s with flush := .ap item .device } ∧
    (∀ outer inner : BitVec 2,
      decode (.texcb (1#1 ++ outer ++ inner)) = .ok (.texcbCached outer inner) ∧
      exec (.texcbCached outer inner) s =
        .next { s with flush := .ap item (.cached (cacheability outer) (cacheability inner)) } ∧
      (CacheLabel.cached (cacheability outer) (cacheability inner)).text =
        "outer:" ++ (cacheability outer).text ++ " inner:" ++ (cacheability inner).text) ∧
    CacheLabel.stronglyOrdered.text = "Strongly-ordered" ∧ CacheLabel.device.text = "Device" ∧
    (∀ r : MergedRange,
      r.labelTexts = [r.decodedCacheAttr.text, r.decodedAccess.text, executeNeverText r.decodedExecuteFlag]) ∧
    ∀ t : BitVec 5, 2 ≤ t.toNat → t.toNat ≤ 15 →
      decode (.texcb t) =
        .ok (if t.toNat ≤ 3 then .texcbReserved02 t else if t.toNat ≤ 7 then .texcbReserved04 t else .texcbReserved08 t) ∧
      ∀ i ∈ [Instr.texcbReserved02 t, .texcbReserved04 t, .texcbReserved08 t],
        exec i s =
          .next { s with
            status := { s.status with err := true, errCode := 5, errTbl := s.tbl, errLvl := 0, busy := false }
            errVa := s.cur.vstart
            errAddr := 0
            errData := t.setWidth 32
            entKind := .none
            flush := .idle
            st := .error }

/-- R215 in a flush (R235; log entry 8): execute-never gives its boolean, and the range can be emitted; false is rendered
blank. -/
def Obligations.ExecuteNeverInFlush : Prop :=
  ∀ (s : State) (item : StreamItem) (c : CacheLabel) (p : AccessLabel), s.direct = none → s.flush = .xn item c p →
    exec .xn0 s = .next { s with flush := .emit item c p false } ∧
    exec .xn1 s = .next { s with flush := .emit item c p true } ∧
    executeNeverText false = "" ∧ executeNeverText true = Config.xnMarker

/-- R214: the four policies, their labels, and no failure; a direct invocation answers (R218, log entry 9). -/
def Obligations.CacheabilityIsTotal : Prop :=
  ∀ s : State,
    exec .cache00 s = .next { s with direct := none, answers := { s.answers with policy := .label .nonCacheable } } ∧
    exec .cache01 s =
      .next { s with direct := none, answers := { s.answers with policy := .label .writeBackWriteAllocate } } ∧
    exec .cache10 s =
      .next { s with direct := none, answers := { s.answers with policy := .label .writeThroughNoWriteAllocate } } ∧
    exec .cache11 s =
      .next { s with direct := none, answers := { s.answers with policy := .label .writeBackNoWriteAllocate } } ∧
    (cacheability 0b00).text = "non-cacheable" ∧ (cacheability 0b01).text = "write-back/write-allocate" ∧
    (cacheability 0b10).text = "write-through/no-write-allocate" ∧
    (cacheability 0b11).text = "write-back/no-write-allocate"

/-- R218 (the port is log entry 9): a decoder invoked directly answers a label or the named failure, uses its operand
up, and touches nothing else. -/
def Obligations.DirectDecodersAnswer : Prop :=
  ∀ s : State,
    (∀ v : BitVec 3, s.direct = some (.ap v) →
      step s = .next { s with
        direct := none
        answers := { s.answers with
          access :=
            if v = 0b001 then .label .privilegedReadWrite
            else if v = 0b101 then .label .privilegedReadOnly
            else if v = 0b011 then .label .readWrite
            else .reserved (v.setWidth 32) } }) ∧
    (∀ t : BitVec 5, s.direct = some (.texcb t) →
      step s = .next { s with
        direct := none
        answers := { s.answers with
          cacheAttr :=
            if t.getLsbD 4 then .label (.cached (cacheability (t.extractLsb' 2 2)) (cacheability (t.extractLsb' 0 2)))
            else if t = 0b00001 then .label .device
            else if t = 0b00000 then .label .stronglyOrdered
            else .reserved (t.setWidth 32) } }) ∧
    (∀ c : BitVec 2, s.direct = some (.cache c) →
      step s = .next { s with direct := none, answers := { s.answers with policy := .label (cacheability c) } }) ∧
    (∀ x : BitVec 1, s.direct = some (.xn x) →
      step s = .next { s with direct := none, answers := { s.answers with executeNever := .label (x == 1) } })

/-- R216 (which the spec marks as derived from R210, R212 and R214): on its defined values each decoder is injective down
to the label's text, and so is the triple. -/
def Obligations.LabelsAreUnique : Prop :=
  ∀ (t t' : BitVec 5) (a a' : BitVec 3) (x x' : BitVec 1) (c c' : CacheLabel) (p p' : AccessLabel),
    BigStep.decodeTexcb t = some c → BigStep.decodeTexcb t' = some c' →
    BigStep.decodeAp a = some p → BigStep.decodeAp a' = some p' →
    (c.text = c'.text → t = t') ∧ (p.text = p'.text → a = a') ∧
    (BigStep.decodeXn x = BigStep.decodeXn x' → x = x') ∧
    ((c.text, p.text, BigStep.decodeXn x) = (c'.text, p'.text, BigStep.decodeXn x') → (t, a, x) = (t', a', x'))

/-! ## The walk state machine -/

/-- R130: START takes the snapshot, clears DONE, sets BUSY, and begins pass 0, when BUSY = 0 and ERR = 0; otherwise it has
no effect at all. The reserved bits of the word have none either way. R130 lists only `cur_valid`; that this step gives
every register of the accumulator its pass-start value (R40) is the model's reading (log entry 23). -/
def Obligations.StartCommand : Prop :=
  ∀ (s : State) (r : BitVec 31),
    (s.status.busy = false → s.status.err = false →
      exec (.start r) s =
        .next { s with
          snap := { ttbr0 := s.cfg.ttbr0, ttbr1 := s.cfg.ttbr1, imgBase := s.cfg.imgBase, imgLen := s.cfg.imgLen }
          status := { s.status with done := false, busy := true }
          tbl := 0
          entKind := .none
          cur := { valid := false, vstart := 0, size := 0, off := 0, ap := 0, xn := 0, texcb := 0 }
          st := .passStart }) ∧
    (s.status.busy = true ∨ s.status.err = true → exec (.start r) s = .next s)

/-- R62, R63: the bounds check with exact arithmetic, over the snapshot's window, and the little-endian word. That all
four bytes must lie inside, and that an address below the base is out of bounds, "are the spec's reading" (R63). -/
def Obligations.MemReadRule : Prop :=
  (∀ (s : State) (a : Word), fetchWord s a = memRead s.image s.snap.imgBase s.snap.imgLen a) ∧
  ∀ (m : Memory) (base a : Word) (len : Wide),
    (a.toNat < base.toNat → memRead m base len a = none) ∧
    (base.toNat ≤ a.toNat → len.toNat < a.toNat - base.toNat + 4 → memRead m base len a = none) ∧
    (base.toNat ≤ a.toNat → a.toNat - base.toNat + 4 ≤ len.toNat →
      ∃ w, memRead m base len a = some w ∧
        w.toNat =
          (m.byte (a.toNat - base.toNat)).toNat + 0x100 * (m.byte (a.toNat - base.toNat + 1)).toNat
            + 0x10000 * (m.byte (a.toNat - base.toNat + 2)).toNat
            + 0x1000000 * (m.byte (a.toNat - base.toNat + 3)).toNat)

/-- R132: an absent root, all 32 bits zero, leads to the end of the pass with no fetch and no entry; otherwise the scan
starts at 0. That the end-of-pass item is on offer as soon as PASS_END is entered is the model's reading (log entry 4). -/
def Obligations.PassStartStep : Prop :=
  ∀ s : State, s.turn .passStart →
    ((if s.tbl = 0 then s.snap.ttbr0 else s.snap.ttbr1) = 0 →
      step s = .next { s with entTbl := s.tbl, entKind := .endOfPass, st := .passEnd }) ∧
    ((if s.tbl = 0 then s.snap.ttbr0 else s.snap.ttbr1) ≠ 0 → step s = .next { s with va := 0, st := .route })

/-- R133: the split is at virtual address 0x02000000; a granule of the other table is passed over. -/
def Obligations.RouteStep : Prop :=
  ∀ s : State, s.turn .route →
    (0x02000000 ≤ s.va.toNat ∧ s.tbl = 1 ∨ s.va.toNat < 0x02000000 ∧ s.tbl = 0 →
      step s = .next { s with st := .l1Fetch }) ∧
    (0x02000000 ≤ s.va.toNat ∧ s.tbl = 0 ∨ s.va.toNat < 0x02000000 ∧ s.tbl = 1 →
      step s = .next { s with st := .advance })

/-- R139 with R63 and R258: the first-level address is latched; then the word, or the fatal transition with code 2 and
level 0. That the address is latched before the read fails is log entry 6; that the word comes in the same step, when
the memory port is ready, 21 and 24. -/
def Obligations.FirstLevelFetchStep : Prop :=
  ∀ (s : State) (a : Word), s.turn .l1Fetch → s.memoryReady = true →
    a = ((if s.tbl = 0 then s.snap.ttbr0 &&& 0xFFFFFF80 else s.snap.ttbr1 &&& 0xFFFFC000)
      ||| ((va32 s.va >>> 18) &&& 0x3FFC)) →
    (∀ w, memRead s.image s.snap.imgBase s.snap.imgLen a = some w →
      step s = .next { s with l1a := a, l1d := w, st := .l1Decode }) ∧
    (memRead s.image s.snap.imgBase s.snap.imgLen a = none →
      step s =
        .next { s with
          l1a := a
          status := { s.status with err := true, errCode := 2, errTbl := s.tbl, errLvl := 0, busy := false }
          errVa := va32 s.va
          errAddr := a
          errData := 0
          entKind := .none
          st := .error })

/-- R143 with R63 and R258: the second-level address is latched; then the word, or the fatal transition with code 2 and
level 1 (log entries 6, 21 and 24 as for the first level). -/
def Obligations.SecondLevelFetchStep : Prop :=
  ∀ (s : State) (a : Word), s.turn .l2Fetch → s.memoryReady = true →
    a = (s.l1d &&& 0xFFFFFC00) ||| ((va32 s.va >>> 10) &&& 0x3FC) →
    (∀ w, memRead s.image s.snap.imgBase s.snap.imgLen a = some w →
      step s = .next { s with l2a := a, l2d := w, st := .l2Decode }) ∧
    (memRead s.image s.snap.imgBase s.snap.imgLen a = none →
      step s =
        .next { s with
          l2a := a
          status := { s.status with err := true, errCode := 2, errTbl := s.tbl, errLvl := 1, busy := false }
          errVa := va32 s.va
          errAddr := a
          errData := 0
          entKind := .none
          st := .error })

/-- R136: the scan counter goes up by 1024 and does not wrap; at 2^32 the pass ends, and its item is on offer as soon as
PASS_END is entered (the model's reading, log entry 4). No other move of the block changes the counter, but for its
start at 0 (R132). -/
def Obligations.AdvanceStep : Prop :=
  (∀ s : State, s.turn .advance → s.va.toNat + 1024 ≤ 0x100000000 →
    ∃ v : Wide, v.toNat = s.va.toNat + 1024 ∧
      step s = .next
        (if s.va.toNat + 1024 = 0x100000000 then
          { s with va := v, entTbl := s.tbl, entKind := .endOfPass, st := .passEnd }
        else { s with va := v, st := .route })) ∧
  ∀ s t : State, s.quiet → s.st ≠ .advance → s.st ≠ .passStart → step s = .next t → t.va = s.va

/-- R147, R149, R150 for a consumer that keeps no range (the coalescer absent, or present with an empty accumulator at
the end of a pass): the item is taken, and the walker advances, begins pass 1, with the accumulator at its pass-start
value (R40; log entry 23), or is done. An outside consumer takes when it is ready (R303; log entry 24). The list of
items taken is the model's own (log entry 14). -/
def Obligations.ItemTakenWithoutFlush : Prop :=
  ∀ s : State,
    (s.turn .emit → s.entKind = .entry → s.coalescer = false → s.consumerReady = true →
      step s = .next { s with entKind := .none, items := s.items ++ [.entry s.ent], st := .advance }) ∧
    (s.turn .passEnd → s.entKind = .endOfPass → s.coalescer = true ∨ s.consumerReady = true → s.cur.valid = false →
      s.tbl = 0 →
      step s =
        .next { s with
          entKind := .none
          items := s.items ++ [.endOfPass s.entTbl]
          cur := { valid := false, vstart := 0, size := 0, off := 0, ap := 0, xn := 0, texcb := 0 }
          tbl := 1
          st := .passStart }) ∧
    (s.turn .passEnd → s.entKind = .endOfPass → s.coalescer = true ∨ s.consumerReady = true → s.cur.valid = false →
      s.tbl = 1 →
      step s =
        .next { s with
          entKind := .none
          items := s.items ++ [.endOfPass s.entTbl]
          status := { s.status with busy := false, done := true }
          st := .done })

/-! ## The range coalescer -/

/-- R231: the offset is the exact signed difference. -/
def Obligations.OffsetIsExact : Prop :=
  ∀ e : MappingEntry, (offsetOf e).toInt = (e.physicalAddress.toNat : Int) - (e.virtualAddress.toNat : Int)

/-- R232, R233, R234: an entry extends the range exactly when offset and raw attributes agree and it is contiguous, and
then the size grows by 1024; otherwise it waits for the flush of the range (log entry 8), or, when there is none, starts
one. R236: the end of a pass with a range open waits for the flush. The list of items taken is the model's own (log
entry 14). -/
def Obligations.ItemTakenByCoalescer : Prop :=
  (∀ s : State, s.turn .passEnd → s.entKind = .endOfPass → s.coalescer = true → s.cur.valid = true →
    step s =
      .next { s with
        entKind := .none
        items := s.items ++ [.endOfPass s.entTbl]
        flush := .texcb (.endOfPass s.entTbl) }) ∧
  ∀ s : State, s.turn .emit → s.entKind = .entry → s.coalescer = true →
    (s.cur.valid = true ∧
        (s.ent.physicalAddress.toNat : Int) - (s.ent.virtualAddress.toNat : Int) = s.cur.off.toInt ∧
        s.ent.accessPermission = s.cur.ap ∧ s.ent.executeNever = s.cur.xn ∧ s.ent.cacheAttrs = s.cur.texcb ∧
        s.ent.virtualAddress.toNat = s.cur.vstart.toNat + s.cur.size.toNat →
      step s =
        .next { s with
          entKind := .none
          items := s.items ++ [.entry s.ent]
          cur := { s.cur with size := s.cur.size + 1024 }
          st := .advance }) ∧
    (s.cur.valid = true ∧
        ¬ ((s.ent.physicalAddress.toNat : Int) - (s.ent.virtualAddress.toNat : Int) = s.cur.off.toInt ∧
          s.ent.accessPermission = s.cur.ap ∧ s.ent.executeNever = s.cur.xn ∧ s.ent.cacheAttrs = s.cur.texcb ∧
          s.ent.virtualAddress.toNat = s.cur.vstart.toNat + s.cur.size.toNat) →
      step s =
        .next { s with entKind := .none, items := s.items ++ [.entry s.ent], flush := .texcb (.entry s.ent) }) ∧
    (s.cur.valid = false →
      step s =
        .next { s with
          entKind := .none
          items := s.items ++ [.entry s.ent]
          cur :=
            { valid := true, vstart := s.ent.virtualAddress, size := 1024,
              off := s.ent.physicalAddress.setWidth 41 - s.ent.virtualAddress.setWidth 41,
              ap := s.ent.accessPermission, xn := s.ent.executeNever, texcb := s.ent.cacheAttrs }
          st := .advance })

/-- R235, R234, R236: from the decision to flush, four moves of the block (log entry 8) emit the Merged Range with its
decoded labels to a host that is ready to take it (log entries 20 and 24; the list is log entry 14), and then finish the
item that caused the flush: an entry starts the next range, the end of pass 0 leaves the accumulator at its pass-start
value (log entry 23), the end of pass 1 leaves it empty, with BUSY and DONE changed in the step that enters DONE (log
entry 18). -/
def Obligations.FlushEmitsRange : Prop :=
  ∀ (s : State) (item : StreamItem) (c : CacheLabel) (p : AccessLabel),
    s.quiet → s.consumerReady = true → s.flush = .texcb item → BigStep.decodeTexcb s.cur.texcb = some c →
    BigStep.decodeAp s.cur.ap = some p →
    ∃ t, Host.Core.run core 4 s = .next t ∧
      t.ranges = s.ranges ++
        [{ virtualStart := s.cur.vstart
           virtualEnd := s.cur.vstart.setWidth 33 + s.cur.size
           physicalStart := (s.cur.vstart.setWidth 41 + s.cur.off).setWidth 40
           physicalEnd := s.cur.vstart.setWidth 41 + s.cur.off + s.cur.size.setWidth 41
           physicalOffset := s.cur.off
           decodedCacheAttr := c
           decodedAccess := p
           decodedExecuteFlag := s.cur.xn == 1 }] ∧
      t.items = s.items ∧ t.va = s.va ∧ t.cfg = s.cfg ∧ t.image = s.image ∧ t.flush = .idle ∧
      match item with
      | .entry e =>
        t.cur.valid = true ∧ t.cur.vstart = e.virtualAddress ∧ t.cur.size = 1024 ∧
          t.cur.off = e.physicalAddress.setWidth 41 - e.virtualAddress.setWidth 41 ∧
          t.cur.ap = e.accessPermission ∧ t.cur.xn = e.executeNever ∧ t.cur.texcb = e.cacheAttrs ∧ t.st = .advance ∧
          t.tbl = s.tbl ∧ t.status = s.status
      | .endOfPass _ =>
        t.cur.valid = false ∧
          (s.tbl = 0 →
            t.tbl = 1 ∧ t.st = .passStart ∧ t.status = s.status ∧
              t.cur = { valid := false, vstart := 0, size := 0, off := 0, ap := 0, xn := 0, texcb := 0 }) ∧
          (s.tbl = 1 → t.tbl = 1 ∧ t.st = .done ∧ t.status = { s.status with busy := false, done := true })

/-- R112: the numbers of a Merged Range that was started by an entry, in exact arithmetic: no end wraps. -/
def Obligations.MergedRangeArithmetic : Prop :=
  ∀ (e : MappingEntry) (size : Wide) (c : CacheLabel) (p : AccessLabel) (x : Bool), size.toNat ≤ 0x100000000 →
    let r := ({ Accumulator.startedBy e with size := size } : Accumulator).merged c p x
    r.virtualStart = e.virtualAddress ∧
    r.virtualEnd.toNat = e.virtualAddress.toNat + size.toNat ∧
    r.physicalStart = e.physicalAddress ∧
    r.physicalEnd.toNat = e.physicalAddress.toNat + size.toNat ∧
    r.physicalOffset.toInt = (e.physicalAddress.toNat : Int) - (e.virtualAddress.toNat : Int)

/-- R240 (a): the ranges of any entries, expanded back, are those entries, so coalescing the expansion gives exactly the
original ranges. -/
def Obligations.CoalescingIdempotent : Prop :=
  ∀ es : List MappingEntry,
    (BigStep.rawRanges es).flatMap BigStep.expand = es ∧
    BigStep.rawRanges ((BigStep.rawRanges es).flatMap BigStep.expand) = BigStep.rawRanges es

/-- R240 (b), (c): two successive ranges of a pass are never mergeable, and the sizes add up to 1024 times the number of
entries. -/
def Obligations.RangesAreMaximal : Prop :=
  ∀ es : List MappingEntry,
    (∀ (k : Nat) (c c' : Accumulator), (BigStep.rawRanges es)[k]? = some c → (BigStep.rawRanges es)[k + 1]? = some c' →
      ¬ (c'.off = c.off ∧ c'.ap = c.ap ∧ c'.xn = c.xn ∧ c'.texcb = c.texcb ∧
        c'.vstart.toNat = c.vstart.toNat + c.size.toNat)) ∧
    ((BigStep.rawRanges es).map fun c => c.size.toNat).sum = 1024 * es.length

/-- R235, R236: what the coalescer emits for the entries of one pass and its end is those ranges, decoded, in order. -/
def Obligations.CoalescerEmitsRawRanges : Prop :=
  ∀ (es : List MappingEntry) (tbl : BitVec 1) (f : Accumulator → MergedRange),
    (∀ c ∈ BigStep.rawRanges es, BigStep.flushRange c = .ok (f c)) →
    (BigStep.coalesceStream tbl Accumulator.zero (es.map .entry ++ [.endOfPass tbl]) none).ranges =
      (BigStep.rawRanges es).map f

/-! ## The walk as a whole -/

/-- R152 (with R12, R131, R148, R256, R306): from any state in which START is accepted, at most 2^27 moves, the
host's START being the first, deliver exactly what the big-step walk of the configured tables delivers, and end as it
ends. R306's proviso, "each memory read returns and each item is taken", is the readiness of consumer and memory port
(log entries 2, 20 and 24); what a move is, is log entry 1, and the two lists are log entry 14. -/
def Obligations.WalkEqualsBigStep : Prop :=
  ∀ (s : State) (w : Word), s.hostActs (.write 5 w) [] → w.getLsbD 0 = true → s.startable →
    s.consumerReady = true → s.memoryReady = true →
    ∃ (n : Nat) (t : State), n ≤ 0x8000000 ∧ Host.Core.run core n s = .next t ∧
      Delivers s t (BigStep.walkResult s.coalescer ⟨s.image, s.cfg.imgBase, s.cfg.imgLen⟩ s.cfg.ttbr0 s.cfg.ttbr1) ∧
      t.cfg = s.cfg ∧ ∀ k, t.image.byte k = s.image.byte k

/-- R137: the entries of a pass rise strictly, are granule addresses and are routed to the pass. -/
def Obligations.EntriesAscend : Prop :=
  ∀ (win : BigStep.Window) (tbl : BitVec 1) (ttbr : Word),
    let vas := (BigStep.passStream win tbl ttbr).items.filterMap fun
      | .entry e => some e.virtualAddress.toNat
      | .endOfPass _ => none
    vas.Pairwise (· < ·) ∧
    ∀ a ∈ vas, a % 1024 = 0 ∧ (tbl = 0 → a < 0x02000000) ∧ (tbl = 1 → 0x02000000 ≤ a)

/-- R135: enumerating only the routed granules, 32768 from 0 and 4161536 from 0x02000000, gives the same pass. -/
def Obligations.UnroutedGranulesDoNotMatter : Prop :=
  ∀ (win : BigStep.Window) (ttbr : Word), ttbr ≠ 0 →
    BigStep.passStream win 0 ttbr = BigStep.scanFrom win 0 ttbr 32768 0 ∧
    BigStep.passStream win 1 ttbr = BigStep.scanFrom win 1 ttbr 4161536 0x02000000

/-! ## Errors, reset and the host -/

/-- R250, R258: an error appears only through the five causes, each with its recorded values: what was delivered stays,
the scan, its latches, the snapshot and the accumulator stay, but for the address of the failed fetch (log entry 6) and
the flush, which is over (log entry 8). -/
def Obligations.ErrorsHaveTheirCause : Prop :=
  ∀ s t : State, Consistent s → s.status.err = false → step s = .next t → t.status.err = true →
    t.st = .error ∧ t.status.busy = false ∧ t.status.done = false ∧ t.status.errTbl = s.tbl ∧ t.entKind = .none ∧
    t.cfg = s.cfg ∧ t.snap = s.snap ∧ t.tbl = s.tbl ∧ t.va = s.va ∧ t.cur = s.cur ∧ t.l1d = s.l1d ∧ t.l2d = s.l2d ∧
    t.dom = s.dom ∧ t.ent = s.ent ∧ t.entTbl = s.entTbl ∧ t.flush = .idle ∧ t.direct = s.direct ∧
    t.answers = s.answers ∧ t.coalescer = s.coalescer ∧ t.consumerReady = s.consumerReady ∧
    t.memoryReady = s.memoryReady ∧ t.readLog = s.readLog ∧ t.image = s.image ∧ t.items = s.items ∧
    t.ranges = s.ranges ∧
    ((t.l1a = s.l1a ∧ t.l2a = s.l2a) ∨ (s.st = .l1Fetch ∧ t.l1a = t.errAddr ∧ t.l2a = s.l2a) ∨
      (s.st = .l2Fetch ∧ t.l1a = s.l1a ∧ t.l2a = t.errAddr)) ∧
    ((s.st = .l1Fetch ∧ inBounds s.snap.imgBase s.snap.imgLen (l1Addr s.tbl s.root (va32 s.va)) = false ∧
        t.status.errCode = 2 ∧ t.status.errLvl = 0 ∧ t.errVa = va32 s.va ∧
        t.errAddr = l1Addr s.tbl s.root (va32 s.va) ∧ t.errData = 0) ∨
     (s.st = .l2Fetch ∧ inBounds s.snap.imgBase s.snap.imgLen (l2AddrNow s) = false ∧
        t.status.errCode = 2 ∧ t.status.errLvl = 1 ∧ t.errVa = va32 s.va ∧ t.errAddr = l2AddrNow s ∧ t.errData = 0) ∨
     (s.st = .l1Decode ∧ s.l1d.extractLsb' 0 2 = 1 ∧ s.l1d.extractLsb' 1 4 ≠ 0 ∧
        t.status.errCode = 3 ∧ t.status.errLvl = 0 ∧ t.errVa = va32 s.va ∧ t.errAddr = s.l1a ∧ t.errData = s.l1d) ∨
     ((∃ item, s.flush = .texcb item) ∧ 2 ≤ s.cur.texcb.toNat ∧ s.cur.texcb.toNat ≤ 15 ∧
        t.status.errCode = 5 ∧ t.status.errLvl = 0 ∧ t.errVa = s.cur.vstart ∧ t.errAddr = 0 ∧
        t.errData = s.cur.texcb.setWidth 32) ∨
     ((∃ item c, s.flush = .ap item c) ∧ s.cur.ap.toNat ∈ [0, 2, 4, 6, 7] ∧
        t.status.errCode = 4 ∧ t.status.errLvl = 0 ∧ t.errVa = s.cur.vstart ∧ t.errAddr = 0 ∧
        t.errData = s.cur.ap.setWidth 32))

/-- R262: once ERR is set, a step either is the reset or leaves the status, the error registers, the state ERROR and all
that was delivered as they are. -/
def Obligations.ErrorOnlyLeftByReset : Prop :=
  ∀ s t : State, Consistent s → s.status.err = true → step s = .next t →
    (∃ rest, s.hostActs .reset rest) ∨
    (t.status = s.status ∧ t.errVa = s.errVa ∧ t.errAddr = s.errAddr ∧ t.errData = s.errData ∧ t.st = .error ∧
      t.va = s.va ∧ t.tbl = s.tbl ∧ t.cur = s.cur ∧ t.snap = s.snap ∧ t.items = s.items ∧ t.ranges = s.ranges)

/-- R44, R290: asserting reset gives every register its reset value, in any state, and the machine right after power-on
has the same values (the zeros of the holding register's entry and table index are log entry 5); R291, R292: the image
stays, and what was already delivered (log entry 14) with it. -/
def Obligations.ResetValues : Prop :=
  State.reset.hasResetValues ∧
  ∀ (s : State) (rest : List Input), s.hostActs .reset rest →
    ∃ t, step s = .next t ∧ t.hasResetValues ∧ t.image = s.image ∧ t.items = s.items ∧ t.ranges = s.ranges

/-- R44, R130: START straight after reset is the empty walk: two end-of-pass items and DONE, in five moves (a move is
log entry 1; the environment is ready after reset, log entry 24). -/
def Obligations.EmptyWalkAfterReset : Prop :=
  ∃ t, Host.Core.run core 5 { State.reset with inputs := [.write 5 1] } = .next t ∧
    t.st = .done ∧ t.status.word = 2 ∧ t.items = [.endOfPass 0, .endOfPass 1] ∧ t.ranges = []

/-- R300: while BUSY a host write to TTBR0, TTBR1, IMG_BASE or IMG_LEN changes nothing. -/
def Obligations.ConfigurationLockedWhileBusy : Prop :=
  ∀ (s : State) (reg : Nat) (v : Word) (rest : List Input), s.hostActs (.write reg v) rest → reg ≤ 4 →
    s.status.busy = true → step s = .next { s with inputs := rest }

/-- R21 to R27: a configuration write while not BUSY is read back and changes no other register (of register 4 only bit 0
is kept); a write to a read-only register, and a CTRL write without START, is ignored; a read changes nothing but the
model's own log of answers (log entry 14). -/
def Obligations.HostRegisterAccess : Prop :=
  ∀ (s : State) (reg : Nat) (v : Word) (rest : List Input),
    (s.hostActs (.write reg v) rest → reg ≤ 4 → s.status.busy = false →
      ∃ c : ConfigRegs, step s = .next { s with cfg := c, inputs := rest } ∧
        readReg { s with cfg := c, inputs := rest } reg = some (if reg = 4 then v &&& 1 else v) ∧
        ∀ r, r ≠ reg → readReg { s with cfg := c, inputs := rest } r = readReg s r) ∧
    (s.hostActs (.write reg v) rest → 6 ≤ reg → reg ≤ 9 → step s = .next { s with inputs := rest }) ∧
    (s.hostActs (.write 5 v) rest → v.getLsbD 0 = false → step s = .next { s with inputs := rest }) ∧
    (s.hostActs (.write 5 v) rest → v.getLsbD 0 = true →
      step s = exec (.start (v.extractLsb' 1 31)) { s with inputs := rest }) ∧
    (s.hostActs (.read reg) rest → reg ≤ 9 →
      ∃ w, readReg s reg = some w ∧ step s = .next { s with readLog := s.readLog ++ [w], inputs := rest })

/-- 93_implementation_defined.md U9, U15: the two host actions the spec gives no meaning are refused, by name. -/
def Obligations.MeaninglessHostActionsRefused : Prop :=
  ∀ (s : State) (reg : Nat) (v : Word) (cells : List Host.Cell) (rest : List Input),
    (s.hostActs (.write reg v) rest → 9 < reg → step s = .refused (.noSuchRegister reg)) ∧
    (s.hostActs (.read reg) rest → 9 < reg → step s = .refused (.noSuchRegister reg)) ∧
    (s.hostActs (.loadImage cells) rest → s.status.busy = true → step s = .refused .imageChangedDuringWalk)

/-- R73: the host may replace the image while no walk runs; then the image holds, at every index, the byte of the last
cell loaded for it, or 0 where none was (log entry 10; that later cells win is the model's reading of a load), in its
canonical form, and nothing else changes. -/
def Obligations.LoadedImageReadsBack : Prop :=
  ∀ (s : State) (cells : List Host.Cell) (rest : List Input), s.hostActs (.loadImage cells) rest →
    s.status.busy = false →
    ∃ m : Memory, step s = .next { s with image := m, inputs := rest } ∧ m.wf = true ∧
      ∀ k, m.byte k = (cells.reverse.lookup k).getD 0

/-- R28, R250: STATUS as a word takes only these values: 0, BUSY, DONE, or ERR with a code from 2 to 5, the failing table
and the level, which is 1 only for a fetch out of bounds; its reserved bits are zero. -/
def Obligations.StatusWords : Prop :=
  ∀ s : State, Consistent s →
    readReg s 6 = some s.status.word ∧
    (s.status.word = 0 ∨ s.status.word = 1 ∨ s.status.word = 2 ∨
      ∃ code tbl lvl : Nat, 2 ≤ code ∧ code ≤ 5 ∧ tbl ≤ 1 ∧ lvl ≤ 1 ∧ (lvl = 1 → code = 2) ∧
        s.status.word.toNat = 4 + 8 * code + 64 * tbl + 128 * lvl) ∧
    (s.status.busy = true ↔ s.status.word = 1) ∧ (s.status.done = true ↔ s.status.word = 2)

/-! ## The step -/

/-- The next move runs the instruction that its word stands for, in its format (R90), and nothing else. -/
def Obligations.StepRunsDecodedInstruction : Prop :=
  ∀ (s s' : State) (e : Encoded) (i : Instr), nextAction s = .run e s' → decode e = .ok i → step s = exec i s'

/-- Which word the block's move takes: the fetched descriptor in L1_DECODE and L2_DECODE (R140, R144), the accumulator's
raw attributes in a flush (R235; its steps are log entry 8). A direct operand (R218; log entry 9) is run in its decoder's
format, the word of a host write to register 5 as a CTRL word (R27). -/
def Obligations.StepTakesTheRightWord : Prop :=
  ∀ s : State,
    (s.turn .l1Decode → step s = exec (decodeL1 s.l1d) s) ∧
    (s.turn .l2Decode → step s = exec (decodeL2 s.l2d) s) ∧
    (s.quiet → ∀ item, s.flush = .texcb item → step s = exec (decodeTEXCB5 s.cur.texcb) s) ∧
    (s.quiet → ∀ item c, s.flush = .ap item c → step s = exec (decodeAP3 s.cur.ap) s) ∧
    (s.quiet → ∀ item c p, s.flush = .xn item c p → step s = exec (decodeXN1 s.cur.xn) s) ∧
    (∀ q i, s.direct = some q → decode q.encoded = .ok i → step s = exec i s) ∧
    (∀ w i rest, s.hostActs (.write 5 w) rest → decode (.ctrl w) = .ok i → step s = exec i { s with inputs := rest })

/-- R305 (the list of inputs is log entry 2): `hold` only lets time pass, and `proceed` is the move the block makes by
itself, whatever the environment does later. -/
def Obligations.TimeDoesNotMatter : Prop :=
  ∀ (s : State) (rest : List Input),
    (s.hostActs .hold rest → step s = .next { s with inputs := rest }) ∧
    (s.hostActs .proceed rest →
      step s =
        match step { s with inputs := [] } with
        | .next t => .next { t with inputs := rest }
        | .fault f => .fault f
        | .refused r => .refused r)

/-- R303 with U10 and U11 of 93_implementation_defined.md (the two readiness flags are log entry 24): a block that waits
for a party outside which is not ready stays as it is for good, however often it moves, so that BUSY stays 1; what else
happens meanwhile leaves the walk, the status and the delivered items alone and the block waiting, unless that party
becomes ready or the block is reset. -/
def Obligations.StallHolds : Prop :=
  (∀ s : State, s.quiet → s.stalled → ∀ n : Nat, Host.Core.run core n s = .next s) ∧
  (∀ s t : State, s.stalled → s.status.busy = true → step s = .next t →
    (∃ rest, s.hostActs .reset rest) ∨
    (t.status = s.status ∧ t.st = s.st ∧ t.tbl = s.tbl ∧ t.va = s.va ∧ t.entKind = s.entKind ∧ t.ent = s.ent ∧
      t.flush = s.flush ∧ t.cur = s.cur ∧ t.items = s.items ∧ t.ranges = s.ranges ∧
      (t.stalled ∨ ∃ rest, s.hostActs (.consumer true) rest ∨ s.hostActs (.memory true) rest))) ∧
  ∀ (s : State) (ready : Bool) (rest : List Input),
    (s.hostActs (.consumer ready) rest → step s = .next { s with consumerReady := ready, inputs := rest }) ∧
    (s.hostActs (.memory ready) rest → step s = .next { s with memoryReady := ready, inputs := rest })

/-- Every step keeps a consistent state consistent: the image's canonical form, the alignment and range of the scan
counter, STATUS against the state machine, the snapshot against the configuration, the latches and the item on offer
against the tables, the accumulator's bounds and its pass-start value (R28, R33, R35, R38, R40, R134, R250, R300; log
entry 23). -/
def Obligations.ConsistencyIsKept : Prop :=
  ∀ s t : State, Consistent s → step s = .next t → Consistent t

/-- The state after reset is consistent. -/
def Obligations.ResetIsConsistent : Prop := Consistent State.reset

/-- From a consistent state no step ends in the model's one fault: the block never offers nothing (log entry 19). -/
def Obligations.ConsistentStatesDoNotFault : Prop :=
  ∀ (s : State) (f : Fault), Consistent s → step s ≠ .fault f

/-- R241, R40: the range in the accumulator is a nonzero number of granules, at most 0x02000000 bytes in pass 0 and
0xFE000000 in pass 1, and its exclusive end, which can be 2^32, does not wrap. -/
def Obligations.RangeBounds : Prop :=
  ∀ (s : State) (c : CacheLabel) (p : AccessLabel) (x : Bool), Consistent s → s.cur.valid = true →
    0 < s.cur.size.toNat ∧ s.cur.size.toNat % 1024 = 0 ∧
    (s.tbl = 0 → s.cur.size.toNat ≤ 0x02000000) ∧ (s.tbl = 1 → s.cur.size.toNat ≤ 0xFE000000) ∧
    (s.cur.merged c p x).virtualEnd.toNat = s.cur.vstart.toNat + s.cur.size.toNat ∧
    (s.cur.merged c p x).virtualEnd.toNat ≤ 0x100000000

/-- R68, R71, R300, R292: the image changes only when the host replaces it while no walk runs, the configuration only by a
host write while not BUSY or by reset. That no step adds or removes the coalescer is the model's choice (log entry 3),
as is that the environment's readiness changes only by its own inputs (log entry 24). -/
def Obligations.OnlyTheHostChangesInputs : Prop :=
  ∀ s t : State, step s = .next t →
    t.coalescer = s.coalescer ∧
    (t.consumerReady = s.consumerReady ∨ ∃ b rest, s.hostActs (.consumer b) rest) ∧
    (t.memoryReady = s.memoryReady ∨ ∃ b rest, s.hostActs (.memory b) rest) ∧
    ((∀ k, t.image.byte k = s.image.byte k) ∨
      ∃ cells rest, s.hostActs (.loadImage cells) rest ∧ s.status.busy = false) ∧
    (t.cfg = s.cfg ∨ (∃ rest, s.hostActs .reset rest) ∨
      ∃ reg v rest, s.hostActs (.write reg v) rest ∧ reg ≤ 4 ∧ s.status.busy = false)

/-- R148, R260, R291: what was delivered stays delivered, in order (the two lists are log entry 14). That a step delivers
at most one item or one range, never both, is the model's choice: a flush takes moves of its own (log entry 8). -/
def Obligations.DeliveredStaysDelivered : Prop :=
  ∀ s t : State, step s = .next t →
    ∃ (l : List StreamItem) (r : List MergedRange),
      t.items = s.items ++ l ∧ t.ranges = s.ranges ++ r ∧ l.length + r.length ≤ 1

end
end

