-- ==== Sys2Proof/Laws/Bits.lean ====
section
/-! SUPPORT. Field by field against word by word: the formulas the meanings apply to decoded fields are those that the spec
writes on raw descriptor words (spec/30_encoding.md R94 to R104, spec/40_table_walker.md R142, R146), and the
encoder inverts the field extraction. -/

namespace Sys2Proof.Machine

/-! ## Addresses -/

theorem paSection_of_word (d va : Word) : paSection (sectionFieldsOf d).base va = BigStep.paSec d va := by
  apply BitVec.eq_of_getLsbD_eq
  intro i hi
  interval_cases i <;> simp [paSection, sectionFieldsOf, BigStep.paSec]

theorem paSupersection_of_word (d va : Word) :
    paSupersection (supersectionFieldsOf d).base (supersectionFieldsOf d).ext1 (supersectionFieldsOf d).ext2 va
      = BigStep.paSsec d va := by
  apply BitVec.eq_of_getLsbD_eq
  intro i hi
  interval_cases i <;> simp [paSupersection, supersectionFieldsOf, BigStep.paSsec]

theorem paLarge_of_word (d va : Word) : paLarge (largePageFieldsOf d).base va = BigStep.paLargeWord d va := by
  apply BitVec.eq_of_getLsbD_eq
  intro i hi
  interval_cases i <;> simp [paLarge, largePageFieldsOf, BigStep.paLargeWord]

theorem paSmall_of_word (d va : Word) : paSmall (smallPageFieldsOf d).base va = BigStep.paSmallWord d va := by
  apply BitVec.eq_of_getLsbD_eq
  intro i hi
  interval_cases i <;> simp [paSmall, smallPageFieldsOf, BigStep.paSmallWord]

theorem l2Addr_of_word (d va : Word) : l2Addr (pageTableFieldsOf d).tableBase va = BigStep.l2AddrWord d va := by
  apply BitVec.eq_of_getLsbD_eq
  intro i hi
  interval_cases i <;> simp [l2Addr, l2IndexMask, pageTableFieldsOf, BigStep.l2AddrWord]

/-! ## Entries -/

theorem sectionEntry_of_word (d va : Word) : sectionEntry (sectionFieldsOf d) va =
    ⟨va, BigStep.paSec d va, BigStep.apSec d, BigStep.texcbSec d, BigStep.xnSec d⟩ := by
  rw [sectionEntry, paSection_of_word]; rfl

theorem supersectionEntry_of_word (d va : Word) : supersectionEntry (supersectionFieldsOf d) va =
    ⟨va, BigStep.paSsec d va, BigStep.apSec d, BigStep.texcbSec d, BigStep.xnSec d⟩ := by
  rw [supersectionEntry, paSupersection_of_word]; rfl

theorem largePageEntry_of_word (d va : Word) : largePageEntry (largePageFieldsOf d) va =
    ⟨va, BigStep.paLargeWord d va, BigStep.apL2 d, BigStep.texcbLarge d, BigStep.xnLarge d⟩ := by
  rw [largePageEntry, paLarge_of_word]; rfl

theorem smallPageEntry_of_word (d va : Word) : smallPageEntry (smallPageFieldsOf d) va =
    ⟨va, BigStep.paSmallWord d va, BigStep.apL2 d, BigStep.texcbSmall d, BigStep.xnSmall d⟩ := by
  rw [smallPageEntry, paSmall_of_word]; rfl

/-! ## Bits of the type field -/

theorem bits_of_type {d : Word} {t : BitVec 2} (h : d.extractLsb' 0 2 = t) :
    d.getLsbD 0 = t.getLsbD 0 ∧ d.getLsbD 1 = t.getLsbD 1 := by
  subst h
  constructor <;> simp

theorem type_zero {d : Word} : d.extractLsb' 0 2 = 0 ↔ d.getLsbD 0 = false ∧ d.getLsbD 1 = false := by
  refine ⟨fun h => by simpa using bits_of_type h, fun ⟨h0, h1⟩ => ?_⟩
  apply BitVec.eq_of_getLsbD_eq
  intro i hi
  interval_cases i <;> simp_all

theorem type_one {d : Word} : d.extractLsb' 0 2 = 1 ↔ d.getLsbD 0 = true ∧ d.getLsbD 1 = false := by
  refine ⟨fun h => by simpa using bits_of_type h, fun ⟨h0, h1⟩ => ?_⟩
  apply BitVec.eq_of_getLsbD_eq
  intro i hi
  interval_cases i <;> simp_all

theorem type_two {d : Word} : d.extractLsb' 0 2 = 2 ↔ d.getLsbD 0 = false ∧ d.getLsbD 1 = true := by
  refine ⟨fun h => by simpa using bits_of_type h, fun ⟨h0, h1⟩ => ?_⟩
  apply BitVec.eq_of_getLsbD_eq
  intro i hi
  interval_cases i <;> simp_all

theorem type_three {d : Word} : d.extractLsb' 0 2 = 3 ↔ d.getLsbD 0 = true ∧ d.getLsbD 1 = true := by
  refine ⟨fun h => by simpa using bits_of_type h, fun ⟨h0, h1⟩ => ?_⟩
  apply BitVec.eq_of_getLsbD_eq
  intro i hi
  interval_cases i <;> simp_all

/-- The should-be-zero check of R140, `d[4:1] = 0`, on a word of type 1 (spec/90_conflicts.md C12). -/
theorem sbz_zero {d : Word} (h : d.extractLsb' 0 2 = 1) :
    d.extractLsb' 1 4 = 0 ↔ d.getLsbD 2 = false ∧ d.getLsbD 3 = false ∧ d.getLsbD 4 = false := by
  obtain ⟨-, h1⟩ := type_one.mp h
  constructor
  · intro h'
    have hb := fun i => congrArg (BitVec.getLsbD · i) h'
    have b1 := hb 1
    have b2 := hb 2
    have b3 := hb 3
    simp at b1 b2 b3
    exact ⟨b1, b2, b3⟩
  · rintro ⟨h2, h3, h4⟩
    apply BitVec.eq_of_getLsbD_eq
    intro i hi
    interval_cases i <;> simp_all

/-! ## The encoder and the field extraction -/

theorem pageTableFieldsOf_word (f : PageTableFields) : pageTableFieldsOf (pageTableWord f) = f := by
  cases f
  simp only [pageTableFieldsOf, pageTableWord, PageTableFields.mk.injEq]
  refine ⟨?_, ?_, ?_, ?_⟩ <;>
    (apply BitVec.eq_of_getLsbD_eq; intro i hi; interval_cases i <;> simp)

theorem sectionFieldsOf_word (f : SectionFields) : sectionFieldsOf (sectionWord f) = f := by
  cases f
  simp only [sectionFieldsOf, sectionWord, SectionFields.mk.injEq]
  refine ⟨?_, ?_, ?_, ?_, ?_, ?_, ?_, ?_, ?_⟩ <;>
    (apply BitVec.eq_of_getLsbD_eq; intro i hi; interval_cases i <;> simp)

theorem supersectionFieldsOf_word (f : SupersectionFields) : supersectionFieldsOf (supersectionWord f) = f := by
  cases f
  simp only [supersectionFieldsOf, supersectionWord, SupersectionFields.mk.injEq]
  refine ⟨?_, ?_, ?_, ?_, ?_, ?_, ?_, ?_, ?_, ?_, ?_⟩ <;>
    (apply BitVec.eq_of_getLsbD_eq; intro i hi; interval_cases i <;> simp)

theorem largePageFieldsOf_word (f : LargePageFields) : largePageFieldsOf (largePageWord f) = f := by
  cases f
  simp only [largePageFieldsOf, largePageWord, LargePageFields.mk.injEq]
  refine ⟨?_, ?_, ?_, ?_, ?_, ?_, ?_, ?_⟩ <;>
    (apply BitVec.eq_of_getLsbD_eq; intro i hi; interval_cases i <;> simp)

theorem smallPageFieldsOf_word (f : SmallPageFields) : smallPageFieldsOf (smallPageWord f) = f := by
  cases f
  simp only [smallPageFieldsOf, smallPageWord, SmallPageFields.mk.injEq]
  refine ⟨?_, ?_, ?_, ?_, ?_, ?_, ?_⟩ <;>
    (apply BitVec.eq_of_getLsbD_eq; intro i hi; interval_cases i <;> simp)

theorem pageTableWord_fieldsOf {d : Word} (h : d.extractLsb' 0 2 = 1) : pageTableWord (pageTableFieldsOf d) = d := by
  obtain ⟨h0, h1⟩ := type_one.mp h
  apply BitVec.eq_of_getLsbD_eq
  intro i hi
  interval_cases i <;> simp_all [pageTableWord, pageTableFieldsOf]

theorem sectionWord_fieldsOf {d : Word} (h : d.extractLsb' 0 2 = 2) (h18 : d.getLsbD 18 = false) :
    sectionWord (sectionFieldsOf d) = d := by
  obtain ⟨h0, h1⟩ := type_two.mp h
  apply BitVec.eq_of_getLsbD_eq
  intro i hi
  interval_cases i <;> simp_all [sectionWord, sectionFieldsOf]

theorem supersectionWord_fieldsOf {d : Word} (h : d.extractLsb' 0 2 = 2) (h18 : d.getLsbD 18 = true) :
    supersectionWord (supersectionFieldsOf d) = d := by
  obtain ⟨h0, h1⟩ := type_two.mp h
  apply BitVec.eq_of_getLsbD_eq
  intro i hi
  interval_cases i <;> simp_all [supersectionWord, supersectionFieldsOf]

theorem largePageWord_fieldsOf {d : Word} (h : d.extractLsb' 0 2 = 1) : largePageWord (largePageFieldsOf d) = d := by
  obtain ⟨h0, h1⟩ := type_one.mp h
  apply BitVec.eq_of_getLsbD_eq
  intro i hi
  interval_cases i <;> simp_all [largePageWord, largePageFieldsOf]

theorem smallPageWord_fieldsOf {d : Word} (h1 : d.getLsbD 1 = true) : smallPageWord (smallPageFieldsOf d) = d := by
  apply BitVec.eq_of_getLsbD_eq
  intro i hi
  interval_cases i <;> simp_all [smallPageWord, smallPageFieldsOf]

theorem restWord_fieldsOf {d : Word} {t : BitVec 2} (h : d.extractLsb' 0 2 = t) : restWord (d.extractLsb' 2 30) t = d := by
  subst h
  apply BitVec.eq_of_getLsbD_eq
  intro i hi
  interval_cases i <;> simp [restWord]

end Sys2Proof.Machine
end

