-- ==== Sys2Proof/Laws/Exec.lean ====
section
/-! SUPPORT. What exec answers, one lemma per arm, in terms of the shared operations. -/

namespace Sys2Proof.Machine

/-! ## First-level descriptors -/

@[simp] theorem exec_l1Fault (rest : BitVec 30) (s : State) : exec (.l1Fault rest) s = .next (skipGranule s) := rfl

@[simp] theorem exec_l1PageTable (f : PageTableFields) (s : State) : exec (.l1PageTable f) s =
    .next { s with dom := f.domain, st := .l2Fetch } := rfl

@[simp] theorem exec_l1PageTableMalformedBit2 (f : PageTableFields) (s : State) :
    exec (.l1PageTableMalformedBit2 f) s = .next (raiseMalformed (pageTableWord f) s) := rfl

@[simp] theorem exec_l1PageTableMalformedBit3 (f : PageTableFields) (s : State) :
    exec (.l1PageTableMalformedBit3 f) s = .next (raiseMalformed (pageTableWord f) s) := rfl

@[simp] theorem exec_l1PageTableMalformedBit4 (f : PageTableFields) (s : State) :
    exec (.l1PageTableMalformedBit4 f) s = .next (raiseMalformed (pageTableWord f) s) := rfl

@[simp] theorem exec_l1Section (f : SectionFields) (s : State) :
    exec (.l1Section f) s = .next (emitEntry (sectionEntry f (va32 s.va)) s) := rfl

@[simp] theorem exec_l1Supersection (f : SupersectionFields) (s : State) :
    exec (.l1Supersection f) s = .next (emitEntry (supersectionEntry f (va32 s.va)) s) := rfl

@[simp] theorem exec_l1Reserved (rest : BitVec 30) (s : State) :
    exec (.l1Reserved rest) s = .next (skipGranule s) := rfl

/-! ## Second-level descriptors -/

@[simp] theorem exec_l2Fault (rest : BitVec 30) (s : State) : exec (.l2Fault rest) s = .next (skipGranule s) := rfl

@[simp] theorem exec_l2LargePage (f : LargePageFields) (s : State) :
    exec (.l2LargePage f) s = .next (emitEntry (largePageEntry f (va32 s.va)) s) := rfl

@[simp] theorem exec_l2SmallPage (f : SmallPageFields) (s : State) :
    exec (.l2SmallPage f) s = .next (emitEntry (smallPageEntry f (va32 s.va)) s) := rfl

/-! ## Attribute values -/

@[simp] theorem exec_ap000Reserved (s : State) : exec .ap000Reserved s = .next (failAccess 0 s) := rfl
@[simp] theorem exec_ap001 (s : State) : exec .ap001 s = .next (deliverAccess .privilegedReadWrite s) := rfl
@[simp] theorem exec_ap010Reserved (s : State) : exec .ap010Reserved s = .next (failAccess 2 s) := rfl
@[simp] theorem exec_ap011 (s : State) : exec .ap011 s = .next (deliverAccess .readWrite s) := rfl
@[simp] theorem exec_ap100Reserved (s : State) : exec .ap100Reserved s = .next (failAccess 4 s) := rfl
@[simp] theorem exec_ap101 (s : State) : exec .ap101 s = .next (deliverAccess .privilegedReadOnly s) := rfl
@[simp] theorem exec_ap110Reserved (s : State) : exec .ap110Reserved s = .next (failAccess 6 s) := rfl
@[simp] theorem exec_ap111Reserved (s : State) : exec .ap111Reserved s = .next (failAccess 7 s) := rfl

@[simp] theorem exec_texcbStronglyOrdered (s : State) :
    exec .texcbStronglyOrdered s = .next (deliverCacheAttr .stronglyOrdered s) := rfl
@[simp] theorem exec_texcbDevice (s : State) : exec .texcbDevice s = .next (deliverCacheAttr .device s) := rfl
@[simp] theorem exec_texcbCached (outer inner : BitVec 2) (s : State) : exec (.texcbCached outer inner) s =
    .next (deliverCacheAttr (.cached (cacheability outer) (cacheability inner)) s) := rfl
@[simp] theorem exec_texcbReserved02 (t : BitVec 5) (s : State) :
    exec (.texcbReserved02 t) s = .next (failCacheAttr t s) := rfl
@[simp] theorem exec_texcbReserved04 (t : BitVec 5) (s : State) :
    exec (.texcbReserved04 t) s = .next (failCacheAttr t s) := rfl
@[simp] theorem exec_texcbReserved08 (t : BitVec 5) (s : State) :
    exec (.texcbReserved08 t) s = .next (failCacheAttr t s) := rfl

@[simp] theorem exec_cache00 (s : State) : exec .cache00 s = .next (deliverPolicy .nonCacheable s) := rfl
@[simp] theorem exec_cache01 (s : State) : exec .cache01 s = .next (deliverPolicy .writeBackWriteAllocate s) := rfl
@[simp] theorem exec_cache10 (s : State) :
    exec .cache10 s = .next (deliverPolicy .writeThroughNoWriteAllocate s) := rfl
@[simp] theorem exec_cache11 (s : State) : exec .cache11 s = .next (deliverPolicy .writeBackNoWriteAllocate s) := rfl

@[simp] theorem exec_xn0 (s : State) : exec .xn0 s = .next (deliverExecuteNever false s) := rfl
@[simp] theorem exec_xn1 (s : State) : exec .xn1 s = .next (deliverExecuteNever true s) := rfl

/-! ## The command -/

@[simp] theorem exec_start (r : BitVec 31) (s : State) :
    exec (.start r) s = .next (if s.status.busy || s.status.err then s else beginWalk s) := rfl

end Sys2Proof.Machine
end

