-- ==== Sys2Proof/Laws/Memory.lean ====
section
/-! SUPPORT. The image: read after place, and the canonical form is kept (spec/20_memory.md R60, R67). -/

namespace Sys2Proof.Machine

theorem wfFrom_mono {lo lo' : Nat} (h : lo' ≤ lo) : ∀ {m : Memory}, Memory.wfFrom lo m = true → Memory.wfFrom lo' m = true
  | [], _ => rfl
  | (a, b) :: m, hw => by
    simp only [Memory.wfFrom, Bool.and_eq_true, decide_eq_true_eq] at hw ⊢
    exact ⟨⟨le_trans h hw.1.1, hw.1.2⟩, hw.2⟩

/-- Below every listed index nothing is listed. -/
theorem byte_below {k : Nat} : ∀ {m : Memory} {lo : Nat}, Memory.wfFrom lo m = true → k < lo → m.byte k = Memory.unlisted
  | [], _, _, _ => rfl
  | (a, b) :: m, lo, hw, hk => by
    simp only [Memory.wfFrom, Bool.and_eq_true, decide_eq_true_eq] at hw
    rw [Memory.byte, if_neg (by omega)]
    exact byte_below hw.2 (by omega)

/-- A placed byte is read back. -/
theorem byte_place_same (k : Nat) (b : Byte) : ∀ {m : Memory} {lo : Nat}, Memory.wfFrom lo m = true →
    (m.place k b).byte k = b
  | [], _, _ => by
    unfold Memory.place
    split <;> simp_all [Memory.byte]
  | (a, c) :: m, lo, hw => by
    simp only [Memory.wfFrom, Bool.and_eq_true, decide_eq_true_eq] at hw
    have below : ∀ j, j < a + 1 → Memory.byte m j = Memory.unlisted := fun j hj => byte_below hw.2 hj
    have ih := byte_place_same k b hw.2
    unfold Memory.place
    split_ifs with h1 h2 h3 h4
    · rw [Memory.byte, if_neg (by omega), below k (by omega), h2]
    · simp [Memory.byte]
    · rw [below k (by omega), h4]
    · simp [Memory.byte]
    · rw [Memory.byte, if_neg (by omega), ih]

/-- Placing a byte leaves every other index alone. -/
theorem byte_place_other {k j : Nat} (hj : j ≠ k) (b : Byte) : ∀ {m : Memory}, (m.place k b).byte j = m.byte j
  | [] => by
    unfold Memory.place
    split
    · rfl
    · simp [Memory.byte, Ne.symm hj]
  | (a, c) :: m => by
    have ih := byte_place_other hj b (m := m)
    unfold Memory.place
    split_ifs with h1 h2 h3 h4
    · rfl
    · rw [Memory.byte, if_neg (Ne.symm hj)]
    · rw [Memory.byte, if_neg (by omega)]
    · rw [Memory.byte, if_neg (Ne.symm hj), Memory.byte, if_neg (by omega)]
    · rw [Memory.byte, Memory.byte, ih]

theorem wfFrom_place (k : Nat) (b : Byte) : ∀ {m : Memory} {lo : Nat}, lo ≤ k → Memory.wfFrom lo m = true →
    Memory.wfFrom lo (m.place k b) = true
  | [], lo, hk, _ => by
    unfold Memory.place
    split <;> simp_all [Memory.wfFrom]
  | (a, c) :: m, lo, hk, hw => by
    have hw' := hw
    simp only [Memory.wfFrom, Bool.and_eq_true, decide_eq_true_eq] at hw
    obtain ⟨⟨hlo, hc⟩, ht⟩ := hw
    unfold Memory.place
    split_ifs with h1 h2 h3 h4
    · exact hw'
    · simp only [Memory.wfFrom, Bool.and_eq_true, decide_eq_true_eq]
      exact ⟨⟨hk, h2⟩, ⟨by omega, hc⟩, ht⟩
    · exact wfFrom_mono (by omega) ht
    · simp only [Memory.wfFrom, Bool.and_eq_true, decide_eq_true_eq]
      exact ⟨⟨hk, h4⟩, h3 ▸ ht⟩
    · simp only [Memory.wfFrom, Bool.and_eq_true, decide_eq_true_eq]
      exact ⟨⟨hlo, hc⟩, wfFrom_place k b (by omega) ht⟩

/-- Placing a byte keeps the canonical form. -/
theorem place_wf (m : Memory) (k : Nat) (b : Byte) (h : m.wf = true) : (m.place k b).wf = true :=
  wfFrom_place k b (Nat.zero_le k) h

/-- The image of any list of cells is in canonical form. -/
theorem ofCells_wf (cells : List Host.Cell) : (Memory.ofCells cells).wf = true := by
  have h : ∀ (l : List Host.Cell) (m : Memory), m.wf = true →
      (l.foldl (fun m c => Memory.place m c.1 c.2) m).wf = true := by
    intro l
    induction l with
    | nil => exact fun _ hm => hm
    | cons c l ih => exact fun m hm => ih _ (place_wf m c.1 c.2 hm)
  exact h cells [] rfl

/-- Canonical images that agree at every index are equal. -/
theorem wf_ext : ∀ {m m' : Memory} {lo lo' : Nat}, Memory.wfFrom lo m = true → Memory.wfFrom lo' m' = true →
    (∀ k, m.byte k = m'.byte k) → m = m'
  | [], [], _, _, _, _, _ => rfl
  | [], (a, b) :: m', _, _, _, hw', h => by
    simp only [Memory.wfFrom, Bool.and_eq_true, decide_eq_true_eq] at hw'
    have := h a
    simp [Memory.byte] at this
    exact absurd this.symm hw'.1.2
  | (a, b) :: m, [], _, _, hw, _, h => by
    simp only [Memory.wfFrom, Bool.and_eq_true, decide_eq_true_eq] at hw
    have := h a
    simp [Memory.byte] at this
    exact absurd this hw.1.2
  | (a, b) :: m, (a', b') :: m', lo, lo', hw, hw', h => by
    simp only [Memory.wfFrom, Bool.and_eq_true, decide_eq_true_eq] at hw hw'
    have below : ∀ j, j < a + 1 → Memory.byte m j = Memory.unlisted := fun j hj => byte_below hw.2 hj
    have below' : ∀ j, j < a' + 1 → Memory.byte m' j = Memory.unlisted := fun j hj => byte_below hw'.2 hj
    have haa : a = a' := by
      by_contra hne
      rcases Nat.lt_or_gt_of_ne hne with hlt | hgt
      · have := h a
        rw [Memory.byte, if_pos rfl, Memory.byte, if_neg (by omega), below' a (by omega)] at this
        exact hw.1.2 this
      · have := h a'
        rw [Memory.byte, if_neg (by omega), Memory.byte, if_pos rfl, below a' (by omega)] at this
        exact hw'.1.2 this.symm
    subst haa
    have hb : b = b' := by simpa [Memory.byte] using h a
    subst hb
    have : m = m' := wf_ext hw.2 hw'.2 fun k => by
      by_cases hk : a = k
      · subst hk
        rw [below a (by omega), below' a (by omega)]
      · simpa [Memory.byte, hk] using h k
    rw [this]

end Sys2Proof.Machine
end

