-- ==== Sys2Proof/Laws/Ops.lean ====
section
/-! SUPPORT. Everything each shared operation can do, said once: an operation that tests something has one lemma per
outcome, with the test as its hypothesis. -/

namespace Sys2Proof.Machine

/-! ## Decoder results -/

theorem deliverAccess_flush {s : State} {item : StreamItem} {c : CacheLabel} (p : AccessLabel) (hd : s.direct = none)
    (hf : s.flush = .ap item c) : deliverAccess p s = { s with flush := .xn item c p } := by
  simp [deliverAccess, hd, hf]

theorem deliverAccess_direct {s : State} {q : AttrQuery} (p : AccessLabel) (hd : s.direct = some q) :
    deliverAccess p s = { s with direct := none, answers := { s.answers with access := .label p } } := by
  simp [deliverAccess, hd]

theorem failAccess_flush {s : State} {item : StreamItem} {c : CacheLabel} (v : BitVec 3) (hd : s.direct = none)
    (hf : s.flush = .ap item c) : failAccess v s = raise (.reservedAP s.cur.vstart v) s := by
  simp [failAccess, hd, hf]

theorem failAccess_direct {s : State} {q : AttrQuery} (v : BitVec 3) (hd : s.direct = some q) :
    failAccess v s = { s with direct := none, answers := { s.answers with access := .reserved (v.setWidth 32) } } := by
  simp [failAccess, hd]

theorem deliverCacheAttr_flush {s : State} {item : StreamItem} (c : CacheLabel) (hd : s.direct = none)
    (hf : s.flush = .texcb item) : deliverCacheAttr c s = { s with flush := .ap item c } := by
  simp [deliverCacheAttr, hd, hf]

theorem deliverCacheAttr_direct {s : State} {q : AttrQuery} (c : CacheLabel) (hd : s.direct = some q) :
    deliverCacheAttr c s = { s with direct := none, answers := { s.answers with cacheAttr := .label c } } := by
  simp [deliverCacheAttr, hd]

theorem failCacheAttr_flush {s : State} {item : StreamItem} (t : BitVec 5) (hd : s.direct = none)
    (hf : s.flush = .texcb item) : failCacheAttr t s = raise (.reservedTEXCB s.cur.vstart t) s := by
  simp [failCacheAttr, hd, hf]

theorem failCacheAttr_direct {s : State} {q : AttrQuery} (t : BitVec 5) (hd : s.direct = some q) :
    failCacheAttr t s =
      { s with direct := none, answers := { s.answers with cacheAttr := .reserved (t.setWidth 32) } } := by
  simp [failCacheAttr, hd]

theorem deliverExecuteNever_flush {s : State} {item : StreamItem} {c : CacheLabel} {p : AccessLabel} (x : Bool)
    (hd : s.direct = none) (hf : s.flush = .xn item c p) :
    deliverExecuteNever x s = { s with flush := .emit item c p x } := by
  simp [deliverExecuteNever, hd, hf]

theorem deliverExecuteNever_direct {s : State} {q : AttrQuery} (x : Bool) (hd : s.direct = some q) :
    deliverExecuteNever x s = { s with direct := none, answers := { s.answers with executeNever := .label x } } := by
  simp [deliverExecuteNever, hd]

/-! ## The walker -/

theorem startPass_absent {s : State} (h : s.snap.root s.tbl = 0) : startPass s = enterPassEnd s := by
  simp [startPass, h]

theorem startPass_present {s : State} (h : s.snap.root s.tbl ≠ 0) : startPass s = { s with va := 0, st := .route } :=
  if_neg h

theorem routeGranule_in {s : State} (h : route s.va = s.tbl) : routeGranule s = { s with st := .l1Fetch } := by
  simp [routeGranule, h]

theorem routeGranule_out {s : State} (h : route s.va ≠ s.tbl) : routeGranule s = { s with st := .advance } := by
  simp [routeGranule, h]

theorem fetchL1_inside {s : State} {w : Word}
    (h : fetchWord s (l1Addr s.tbl (s.snap.root s.tbl) (va32 s.va)) = some w) :
    fetchL1 s = { s with l1a := l1Addr s.tbl (s.snap.root s.tbl) (va32 s.va), l1d := w, st := .l1Decode } := by
  simp [fetchL1, h]

theorem fetchL1_outside {s : State} (h : fetchWord s (l1Addr s.tbl (s.snap.root s.tbl) (va32 s.va)) = none) :
    fetchL1 s = raise (.outOfBounds 0 (va32 s.va) (l1Addr s.tbl (s.snap.root s.tbl) (va32 s.va)))
      { s with l1a := l1Addr s.tbl (s.snap.root s.tbl) (va32 s.va) } := by
  simp [fetchL1, h]

theorem fetchL2_inside {s : State} {w : Word} (h : fetchWord s (l2AddrNow s) = some w) :
    fetchL2 s = { s with l2a := l2AddrNow s, l2d := w, st := .l2Decode } := by
  simp [fetchL2, h]

theorem fetchL2_outside {s : State} (h : fetchWord s (l2AddrNow s) = none) :
    fetchL2 s = raise (.outOfBounds 1 (va32 s.va) (l2AddrNow s)) { s with l2a := l2AddrNow s } := by
  simp [fetchL2, h]

theorem whenReady_true (move : State → State) (s : State) : whenReady true move s = move s := rfl

theorem whenReady_false (move : State → State) (s : State) : whenReady false move s = s := rfl

/-- What waits for a party outside either is done or changes nothing. -/
theorem whenReady_cases (ready : Bool) (move : State → State) (s : State) :
    ready = true ∧ whenReady ready move s = move s ∨ ready = false ∧ whenReady ready move s = s := by
  cases ready
  · exact .inr ⟨rfl, rfl⟩
  · exact .inl ⟨rfl, rfl⟩

theorem consumerTakes_present {s : State} (h : s.coalescer = true) : consumerTakes s = true := by
  simp [consumerTakes, h]

theorem consumerTakes_absent {s : State} (h : s.coalescer = false) : consumerTakes s = s.consumerReady := by
  simp [consumerTakes, h]

theorem advance_on {s : State} (h : s.va + granule ≠ scanEnd) :
    advance s = { s with va := s.va + granule, st := .route } := by
  simp [advance, h]

theorem advance_end {s : State} (h : s.va + granule = scanEnd) :
    advance s = enterPassEnd { s with va := s.va + granule } := by
  simp [advance, h]

/-- The scan counter goes up by exactly 1024 below 2^32. -/
theorem toNat_add_granule {va : Wide} (h : va.toNat < 0x100000000) : (va + granule).toNat = va.toNat + 1024 := by
  simp [granule, BitVec.toNat_add]; omega

theorem finishPass_first {s : State} (h : s.tbl = 0) :
    finishPass s = { s with tbl := 1, cur := Accumulator.zero, st := .passStart } := by
  simp [finishPass, h]

theorem finishPass_second {s : State} (h : s.tbl ≠ 0) :
    finishPass s = { s with st := .done, status := s.status.finished } :=
  if_neg h

/-! ## The coalescer -/

theorem offered_entry {s : State} (h : s.entKind = .entry) : offered s = some (.entry s.ent) := by simp [offered, h]

theorem offered_end {s : State} (h : s.entKind = .endOfPass) : offered s = some (.endOfPass s.entTbl) := by
  simp [offered, h]

theorem takeItem_absent {s : State} (item : StreamItem) (h : s.coalescer = false) :
    takeItem item s = releaseWalker item { s with entKind := .none, items := s.items ++ [item] } := by
  simp [takeItem, h]

theorem takeItem_present {s : State} (item : StreamItem) (h : s.coalescer = true) :
    takeItem item s = coalesceItem item { s with entKind := .none, items := s.items ++ [item] } := by
  simp [takeItem, h]

theorem coalesceItem_extend {s : State} {e : MappingEntry} (h : s.cur.extendedBy e = true) :
    coalesceItem (.entry e) s = { s with cur := s.cur.extend, st := .advance } := by
  simp [coalesceItem, h, releaseWalker]

theorem coalesceItem_flush {s : State} {e : MappingEntry} (h : s.cur.extendedBy e = false) (hv : s.cur.valid = true) :
    coalesceItem (.entry e) s = { s with flush := .texcb (.entry e) } := by
  simp [coalesceItem, h, hv]

theorem coalesceItem_first {s : State} {e : MappingEntry} (hv : s.cur.valid = false) :
    coalesceItem (.entry e) s = { s with cur := Accumulator.startedBy e, st := .advance } := by
  simp [coalesceItem, Accumulator.extendedBy, hv, releaseWalker]

theorem coalesceItem_endFlush {s : State} {t : BitVec 1} (hv : s.cur.valid = true) :
    coalesceItem (.endOfPass t) s = { s with flush := .texcb (.endOfPass t) } := by
  simp [coalesceItem, hv]

theorem coalesceItem_endEmpty {s : State} {t : BitVec 1} (hv : s.cur.valid = false) :
    coalesceItem (.endOfPass t) s = finishPass { s with cur := s.cur.emptied } := by
  simp [coalesceItem, hv, releaseWalker]

/-- What an accumulator is extended by, in exact arithmetic (R232). -/
theorem extendedBy_iff (c : Accumulator) (e : MappingEntry) : c.extendedBy e = true ↔
    c.valid = true ∧ offsetOf e = c.off ∧ e.accessPermission = c.ap ∧ e.executeNever = c.xn ∧ e.cacheAttrs = c.texcb ∧
      e.virtualAddress.toNat = c.vstart.toNat + c.size.toNat := by
  simp [Accumulator.extendedBy, and_assoc]

/-! ## The host port -/

theorem writeConfig_free {s : State} (c : ConfigRegs) (h : s.status.busy = false) :
    writeConfig c s = { s with cfg := c } := by
  simp [writeConfig, h]

theorem writeConfig_locked {s : State} (c : ConfigRegs) (h : s.status.busy = true) : writeConfig c s = s := by
  simp [writeConfig, h]

theorem memRead_inside {m : Memory} {base : Word} {len : Wide} {a : Word} (h : inBounds base len a = true) :
    memRead m base len a = some (m.word (a.toNat - base.toNat)) := by
  simp [memRead, h]

theorem memRead_outside {m : Memory} {base : Word} {len : Wide} {a : Word} (h : inBounds base len a = false) :
    memRead m base len a = none := by
  simp [memRead, h]

theorem inBounds_iff (base : Word) (len : Wide) (a : Word) : inBounds base len a = true ↔
    base.toNat ≤ a.toNat ∧ a.toNat - base.toNat + 4 ≤ len.toNat := by
  simp [inBounds]

end Sys2Proof.Machine
end

