-- ==== Sys2Proof/Laws/PerInstr.lean ====
section
/-! SUPPORT. Statements made for every instruction as syntax, one lemma per constructor. -/

/-! ## RowMatch: the encoding of a well-formed instruction lies in its own row of the opcode table -/

/-- A well-formed instruction encodes to a word of its row. -/
def Sys2Proof.Laws.RowMatch.Statement (i : Sys2Proof.Instr) : Prop :=
  i.wf = true → i.row.accepts (Sys2Proof.encode i) = true

namespace Sys2Proof.Laws

/-- A word is in a row when its bits under the mask are the pattern. -/
theorem accepts_iff (r : Row) (e : Encoded) : r.accepts e = true ↔ r.format = e.format ∧ e.bits &&& r.mask = r.pattern := by
  simp [Row.accepts]

end Sys2Proof.Laws

theorem Sys2Proof.Laws.RowMatch.l1Fault (rest : BitVec 30) : Sys2Proof.Laws.RowMatch.Statement (.l1Fault rest) := by
  intro _
  refine (Sys2Proof.Laws.accepts_iff _ _).mpr ⟨rfl, ?_⟩
  show Sys2Proof.restWord rest 0 &&& 0x3#32 = 0x0#32
  apply BitVec.eq_of_getLsbD_eq
  intro i hi
  interval_cases i <;> simp [Sys2Proof.restWord]

theorem Sys2Proof.Laws.RowMatch.l1PageTable (f : Sys2Proof.PageTableFields) : Sys2Proof.Laws.RowMatch.Statement (.l1PageTable f) := by
  intro h
  have h : f.sbz = 0 := by simpa [Sys2Proof.Instr.wf] using h
  refine (Sys2Proof.Laws.accepts_iff _ _).mpr ⟨rfl, ?_⟩
  show Sys2Proof.pageTableWord f &&& 0x1F#32 = 0x1#32
  apply BitVec.eq_of_getLsbD_eq
  intro i hi
  interval_cases i <;> simp_all [Sys2Proof.pageTableWord]

theorem Sys2Proof.Laws.RowMatch.l1PageTableMalformedBit2 (f : Sys2Proof.PageTableFields) : Sys2Proof.Laws.RowMatch.Statement (.l1PageTableMalformedBit2 f) := by
  intro h
  simp only [Sys2Proof.Instr.wf] at h
  refine (Sys2Proof.Laws.accepts_iff _ _).mpr ⟨rfl, ?_⟩
  show Sys2Proof.pageTableWord f &&& 0x7#32 = 0x5#32
  apply BitVec.eq_of_getLsbD_eq
  intro i hi
  interval_cases i <;> simp_all [Sys2Proof.pageTableWord]

theorem Sys2Proof.Laws.RowMatch.l1PageTableMalformedBit3 (f : Sys2Proof.PageTableFields) : Sys2Proof.Laws.RowMatch.Statement (.l1PageTableMalformedBit3 f) := by
  intro h
  simp only [Sys2Proof.Instr.wf, Bool.and_eq_true, Bool.not_eq_true'] at h
  refine (Sys2Proof.Laws.accepts_iff _ _).mpr ⟨rfl, ?_⟩
  show Sys2Proof.pageTableWord f &&& 0xF#32 = 0x9#32
  apply BitVec.eq_of_getLsbD_eq
  intro i hi
  interval_cases i <;> simp_all [Sys2Proof.pageTableWord]

theorem Sys2Proof.Laws.RowMatch.l1PageTableMalformedBit4 (f : Sys2Proof.PageTableFields) : Sys2Proof.Laws.RowMatch.Statement (.l1PageTableMalformedBit4 f) := by
  intro h
  simp only [Sys2Proof.Instr.wf, Bool.and_eq_true, Bool.not_eq_true'] at h
  refine (Sys2Proof.Laws.accepts_iff _ _).mpr ⟨rfl, ?_⟩
  show Sys2Proof.pageTableWord f &&& 0x1F#32 = 0x11#32
  apply BitVec.eq_of_getLsbD_eq
  intro i hi
  interval_cases i <;> simp_all [Sys2Proof.pageTableWord]

theorem Sys2Proof.Laws.RowMatch.l1Section (f : Sys2Proof.SectionFields) : Sys2Proof.Laws.RowMatch.Statement (.l1Section f) := by
  intro _
  refine (Sys2Proof.Laws.accepts_iff _ _).mpr ⟨rfl, ?_⟩
  show Sys2Proof.sectionWord f &&& 0x40003#32 = 0x2#32
  apply BitVec.eq_of_getLsbD_eq
  intro i hi
  interval_cases i <;> simp [Sys2Proof.sectionWord]

theorem Sys2Proof.Laws.RowMatch.l1Supersection (f : Sys2Proof.SupersectionFields) : Sys2Proof.Laws.RowMatch.Statement (.l1Supersection f) := by
  intro _
  refine (Sys2Proof.Laws.accepts_iff _ _).mpr ⟨rfl, ?_⟩
  show Sys2Proof.supersectionWord f &&& 0x40003#32 = 0x40002#32
  apply BitVec.eq_of_getLsbD_eq
  intro i hi
  interval_cases i <;> simp [Sys2Proof.supersectionWord]

theorem Sys2Proof.Laws.RowMatch.l1Reserved (rest : BitVec 30) : Sys2Proof.Laws.RowMatch.Statement (.l1Reserved rest) := by
  intro _
  refine (Sys2Proof.Laws.accepts_iff _ _).mpr ⟨rfl, ?_⟩
  show Sys2Proof.restWord rest 3 &&& 0x3#32 = 0x3#32
  apply BitVec.eq_of_getLsbD_eq
  intro i hi
  interval_cases i <;> simp [Sys2Proof.restWord]

theorem Sys2Proof.Laws.RowMatch.l2Fault (rest : BitVec 30) : Sys2Proof.Laws.RowMatch.Statement (.l2Fault rest) := by
  intro _
  refine (Sys2Proof.Laws.accepts_iff _ _).mpr ⟨rfl, ?_⟩
  show Sys2Proof.restWord rest 0 &&& 0x3#32 = 0x0#32
  apply BitVec.eq_of_getLsbD_eq
  intro i hi
  interval_cases i <;> simp [Sys2Proof.restWord]

theorem Sys2Proof.Laws.RowMatch.l2LargePage (f : Sys2Proof.LargePageFields) : Sys2Proof.Laws.RowMatch.Statement (.l2LargePage f) := by
  intro _
  refine (Sys2Proof.Laws.accepts_iff _ _).mpr ⟨rfl, ?_⟩
  show Sys2Proof.largePageWord f &&& 0x3#32 = 0x1#32
  apply BitVec.eq_of_getLsbD_eq
  intro i hi
  interval_cases i <;> simp [Sys2Proof.largePageWord]

theorem Sys2Proof.Laws.RowMatch.l2SmallPage (f : Sys2Proof.SmallPageFields) : Sys2Proof.Laws.RowMatch.Statement (.l2SmallPage f) := by
  intro _
  refine (Sys2Proof.Laws.accepts_iff _ _).mpr ⟨rfl, ?_⟩
  show Sys2Proof.smallPageWord f &&& 0x2#32 = 0x2#32
  apply BitVec.eq_of_getLsbD_eq
  intro i hi
  interval_cases i <;> simp [Sys2Proof.smallPageWord]

theorem Sys2Proof.Laws.RowMatch.ap000Reserved : Sys2Proof.Laws.RowMatch.Statement (.ap000Reserved) := by
  unfold Sys2Proof.Laws.RowMatch.Statement
  decide

theorem Sys2Proof.Laws.RowMatch.ap001 : Sys2Proof.Laws.RowMatch.Statement (.ap001) := by
  unfold Sys2Proof.Laws.RowMatch.Statement
  decide

theorem Sys2Proof.Laws.RowMatch.ap010Reserved : Sys2Proof.Laws.RowMatch.Statement (.ap010Reserved) := by
  unfold Sys2Proof.Laws.RowMatch.Statement
  decide

theorem Sys2Proof.Laws.RowMatch.ap011 : Sys2Proof.Laws.RowMatch.Statement (.ap011) := by
  unfold Sys2Proof.Laws.RowMatch.Statement
  decide

theorem Sys2Proof.Laws.RowMatch.ap100Reserved : Sys2Proof.Laws.RowMatch.Statement (.ap100Reserved) := by
  unfold Sys2Proof.Laws.RowMatch.Statement
  decide

theorem Sys2Proof.Laws.RowMatch.ap101 : Sys2Proof.Laws.RowMatch.Statement (.ap101) := by
  unfold Sys2Proof.Laws.RowMatch.Statement
  decide

theorem Sys2Proof.Laws.RowMatch.ap110Reserved : Sys2Proof.Laws.RowMatch.Statement (.ap110Reserved) := by
  unfold Sys2Proof.Laws.RowMatch.Statement
  decide

theorem Sys2Proof.Laws.RowMatch.ap111Reserved : Sys2Proof.Laws.RowMatch.Statement (.ap111Reserved) := by
  unfold Sys2Proof.Laws.RowMatch.Statement
  decide

theorem Sys2Proof.Laws.RowMatch.texcbStronglyOrdered : Sys2Proof.Laws.RowMatch.Statement (.texcbStronglyOrdered) := by
  unfold Sys2Proof.Laws.RowMatch.Statement
  decide

theorem Sys2Proof.Laws.RowMatch.texcbDevice : Sys2Proof.Laws.RowMatch.Statement (.texcbDevice) := by
  unfold Sys2Proof.Laws.RowMatch.Statement
  decide

theorem Sys2Proof.Laws.RowMatch.texcbCached (outer inner : BitVec 2) : Sys2Proof.Laws.RowMatch.Statement (.texcbCached outer inner) := by
  revert outer inner
  unfold Sys2Proof.Laws.RowMatch.Statement
  decide

theorem Sys2Proof.Laws.RowMatch.texcbReserved02 (t : BitVec 5) : Sys2Proof.Laws.RowMatch.Statement (.texcbReserved02 t) := by
  revert t
  unfold Sys2Proof.Laws.RowMatch.Statement
  decide

theorem Sys2Proof.Laws.RowMatch.texcbReserved04 (t : BitVec 5) : Sys2Proof.Laws.RowMatch.Statement (.texcbReserved04 t) := by
  revert t
  unfold Sys2Proof.Laws.RowMatch.Statement
  decide

theorem Sys2Proof.Laws.RowMatch.texcbReserved08 (t : BitVec 5) : Sys2Proof.Laws.RowMatch.Statement (.texcbReserved08 t) := by
  revert t
  unfold Sys2Proof.Laws.RowMatch.Statement
  decide

theorem Sys2Proof.Laws.RowMatch.cache00 : Sys2Proof.Laws.RowMatch.Statement (.cache00) := by
  unfold Sys2Proof.Laws.RowMatch.Statement
  decide

theorem Sys2Proof.Laws.RowMatch.cache01 : Sys2Proof.Laws.RowMatch.Statement (.cache01) := by
  unfold Sys2Proof.Laws.RowMatch.Statement
  decide

theorem Sys2Proof.Laws.RowMatch.cache10 : Sys2Proof.Laws.RowMatch.Statement (.cache10) := by
  unfold Sys2Proof.Laws.RowMatch.Statement
  decide

theorem Sys2Proof.Laws.RowMatch.cache11 : Sys2Proof.Laws.RowMatch.Statement (.cache11) := by
  unfold Sys2Proof.Laws.RowMatch.Statement
  decide

theorem Sys2Proof.Laws.RowMatch.xn0 : Sys2Proof.Laws.RowMatch.Statement (.xn0) := by
  unfold Sys2Proof.Laws.RowMatch.Statement
  decide

theorem Sys2Proof.Laws.RowMatch.xn1 : Sys2Proof.Laws.RowMatch.Statement (.xn1) := by
  unfold Sys2Proof.Laws.RowMatch.Statement
  decide

theorem Sys2Proof.Laws.RowMatch.start (reserved : BitVec 31) : Sys2Proof.Laws.RowMatch.Statement (.start reserved) := by
  intro _
  refine (Sys2Proof.Laws.accepts_iff _ _).mpr ⟨rfl, ?_⟩
  show (reserved.setWidth 32 <<< 1 ||| 1#32) &&& 0x1#32 = 0x1#32
  apply BitVec.eq_of_getLsbD_eq
  intro i hi
  interval_cases i <;> simp
end

