-- ==== Sys2Proof/Laws/State.lean ====
section
/-! SUPPORT. One lemma per field per update: what each named update of State leaves in each field. -/

namespace Sys2Proof.Machine

/-! ## skipGranule -/

@[simp] theorem skipGranule_cfg (s : State) : (skipGranule s).cfg = s.cfg := rfl
@[simp] theorem skipGranule_status (s : State) : (skipGranule s).status = s.status := rfl
@[simp] theorem skipGranule_errVa (s : State) : (skipGranule s).errVa = s.errVa := rfl
@[simp] theorem skipGranule_errAddr (s : State) : (skipGranule s).errAddr = s.errAddr := rfl
@[simp] theorem skipGranule_errData (s : State) : (skipGranule s).errData = s.errData := rfl
@[simp] theorem skipGranule_tbl (s : State) : (skipGranule s).tbl = s.tbl := rfl
@[simp] theorem skipGranule_va (s : State) : (skipGranule s).va = s.va := rfl
@[simp] theorem skipGranule_st (s : State) : (skipGranule s).st = .advance := rfl
@[simp] theorem skipGranule_l1a (s : State) : (skipGranule s).l1a = s.l1a := rfl
@[simp] theorem skipGranule_l1d (s : State) : (skipGranule s).l1d = s.l1d := rfl
@[simp] theorem skipGranule_l2a (s : State) : (skipGranule s).l2a = s.l2a := rfl
@[simp] theorem skipGranule_l2d (s : State) : (skipGranule s).l2d = s.l2d := rfl
@[simp] theorem skipGranule_dom (s : State) : (skipGranule s).dom = s.dom := rfl
@[simp] theorem skipGranule_ent (s : State) : (skipGranule s).ent = s.ent := rfl
@[simp] theorem skipGranule_entTbl (s : State) : (skipGranule s).entTbl = s.entTbl := rfl
@[simp] theorem skipGranule_entKind (s : State) : (skipGranule s).entKind = s.entKind := rfl
@[simp] theorem skipGranule_snap (s : State) : (skipGranule s).snap = s.snap := rfl
@[simp] theorem skipGranule_cur (s : State) : (skipGranule s).cur = s.cur := rfl
@[simp] theorem skipGranule_flush (s : State) : (skipGranule s).flush = s.flush := rfl
@[simp] theorem skipGranule_direct (s : State) : (skipGranule s).direct = s.direct := rfl
@[simp] theorem skipGranule_answers (s : State) : (skipGranule s).answers = s.answers := rfl
@[simp] theorem skipGranule_image (s : State) : (skipGranule s).image = s.image := rfl
@[simp] theorem skipGranule_coalescer (s : State) : (skipGranule s).coalescer = s.coalescer := rfl
@[simp] theorem skipGranule_consumerReady (s : State) : (skipGranule s).consumerReady = s.consumerReady := rfl
@[simp] theorem skipGranule_memoryReady (s : State) : (skipGranule s).memoryReady = s.memoryReady := rfl
@[simp] theorem skipGranule_items (s : State) : (skipGranule s).items = s.items := rfl
@[simp] theorem skipGranule_ranges (s : State) : (skipGranule s).ranges = s.ranges := rfl
@[simp] theorem skipGranule_readLog (s : State) : (skipGranule s).readLog = s.readLog := rfl
@[simp] theorem skipGranule_inputs (s : State) : (skipGranule s).inputs = s.inputs := rfl

/-! ## emitEntry -/

@[simp] theorem emitEntry_cfg (e : MappingEntry) (s : State) : (emitEntry e s).cfg = s.cfg := rfl
@[simp] theorem emitEntry_status (e : MappingEntry) (s : State) : (emitEntry e s).status = s.status := rfl
@[simp] theorem emitEntry_errVa (e : MappingEntry) (s : State) : (emitEntry e s).errVa = s.errVa := rfl
@[simp] theorem emitEntry_errAddr (e : MappingEntry) (s : State) : (emitEntry e s).errAddr = s.errAddr := rfl
@[simp] theorem emitEntry_errData (e : MappingEntry) (s : State) : (emitEntry e s).errData = s.errData := rfl
@[simp] theorem emitEntry_tbl (e : MappingEntry) (s : State) : (emitEntry e s).tbl = s.tbl := rfl
@[simp] theorem emitEntry_va (e : MappingEntry) (s : State) : (emitEntry e s).va = s.va := rfl
@[simp] theorem emitEntry_st (e : MappingEntry) (s : State) : (emitEntry e s).st = .emit := rfl
@[simp] theorem emitEntry_l1a (e : MappingEntry) (s : State) : (emitEntry e s).l1a = s.l1a := rfl
@[simp] theorem emitEntry_l1d (e : MappingEntry) (s : State) : (emitEntry e s).l1d = s.l1d := rfl
@[simp] theorem emitEntry_l2a (e : MappingEntry) (s : State) : (emitEntry e s).l2a = s.l2a := rfl
@[simp] theorem emitEntry_l2d (e : MappingEntry) (s : State) : (emitEntry e s).l2d = s.l2d := rfl
@[simp] theorem emitEntry_dom (e : MappingEntry) (s : State) : (emitEntry e s).dom = s.dom := rfl
@[simp] theorem emitEntry_ent (e : MappingEntry) (s : State) : (emitEntry e s).ent = e := rfl
@[simp] theorem emitEntry_entTbl (e : MappingEntry) (s : State) : (emitEntry e s).entTbl = s.entTbl := rfl
@[simp] theorem emitEntry_entKind (e : MappingEntry) (s : State) : (emitEntry e s).entKind = .entry := rfl
@[simp] theorem emitEntry_snap (e : MappingEntry) (s : State) : (emitEntry e s).snap = s.snap := rfl
@[simp] theorem emitEntry_cur (e : MappingEntry) (s : State) : (emitEntry e s).cur = s.cur := rfl
@[simp] theorem emitEntry_flush (e : MappingEntry) (s : State) : (emitEntry e s).flush = s.flush := rfl
@[simp] theorem emitEntry_direct (e : MappingEntry) (s : State) : (emitEntry e s).direct = s.direct := rfl
@[simp] theorem emitEntry_answers (e : MappingEntry) (s : State) : (emitEntry e s).answers = s.answers := rfl
@[simp] theorem emitEntry_image (e : MappingEntry) (s : State) : (emitEntry e s).image = s.image := rfl
@[simp] theorem emitEntry_coalescer (e : MappingEntry) (s : State) : (emitEntry e s).coalescer = s.coalescer := rfl
@[simp] theorem emitEntry_consumerReady (e : MappingEntry) (s : State) : (emitEntry e s).consumerReady = s.consumerReady := rfl
@[simp] theorem emitEntry_memoryReady (e : MappingEntry) (s : State) : (emitEntry e s).memoryReady = s.memoryReady := rfl
@[simp] theorem emitEntry_items (e : MappingEntry) (s : State) : (emitEntry e s).items = s.items := rfl
@[simp] theorem emitEntry_ranges (e : MappingEntry) (s : State) : (emitEntry e s).ranges = s.ranges := rfl
@[simp] theorem emitEntry_readLog (e : MappingEntry) (s : State) : (emitEntry e s).readLog = s.readLog := rfl
@[simp] theorem emitEntry_inputs (e : MappingEntry) (s : State) : (emitEntry e s).inputs = s.inputs := rfl

/-! ## raise -/

@[simp] theorem raise_cfg (e : ErrInfo) (s : State) : (raise e s).cfg = s.cfg := rfl
@[simp] theorem raise_status (e : ErrInfo) (s : State) : (raise e s).status = s.status.failed e.code s.tbl e.lvl := rfl
@[simp] theorem raise_errVa (e : ErrInfo) (s : State) : (raise e s).errVa = e.va := rfl
@[simp] theorem raise_errAddr (e : ErrInfo) (s : State) : (raise e s).errAddr = e.addr := rfl
@[simp] theorem raise_errData (e : ErrInfo) (s : State) : (raise e s).errData = e.data := rfl
@[simp] theorem raise_tbl (e : ErrInfo) (s : State) : (raise e s).tbl = s.tbl := rfl
@[simp] theorem raise_va (e : ErrInfo) (s : State) : (raise e s).va = s.va := rfl
@[simp] theorem raise_st (e : ErrInfo) (s : State) : (raise e s).st = .error := rfl
@[simp] theorem raise_l1a (e : ErrInfo) (s : State) : (raise e s).l1a = s.l1a := rfl
@[simp] theorem raise_l1d (e : ErrInfo) (s : State) : (raise e s).l1d = s.l1d := rfl
@[simp] theorem raise_l2a (e : ErrInfo) (s : State) : (raise e s).l2a = s.l2a := rfl
@[simp] theorem raise_l2d (e : ErrInfo) (s : State) : (raise e s).l2d = s.l2d := rfl
@[simp] theorem raise_dom (e : ErrInfo) (s : State) : (raise e s).dom = s.dom := rfl
@[simp] theorem raise_ent (e : ErrInfo) (s : State) : (raise e s).ent = s.ent := rfl
@[simp] theorem raise_entTbl (e : ErrInfo) (s : State) : (raise e s).entTbl = s.entTbl := rfl
@[simp] theorem raise_entKind (e : ErrInfo) (s : State) : (raise e s).entKind = .none := rfl
@[simp] theorem raise_snap (e : ErrInfo) (s : State) : (raise e s).snap = s.snap := rfl
@[simp] theorem raise_cur (e : ErrInfo) (s : State) : (raise e s).cur = s.cur := rfl
@[simp] theorem raise_flush (e : ErrInfo) (s : State) : (raise e s).flush = .idle := rfl
@[simp] theorem raise_direct (e : ErrInfo) (s : State) : (raise e s).direct = s.direct := rfl
@[simp] theorem raise_answers (e : ErrInfo) (s : State) : (raise e s).answers = s.answers := rfl
@[simp] theorem raise_image (e : ErrInfo) (s : State) : (raise e s).image = s.image := rfl
@[simp] theorem raise_coalescer (e : ErrInfo) (s : State) : (raise e s).coalescer = s.coalescer := rfl
@[simp] theorem raise_consumerReady (e : ErrInfo) (s : State) : (raise e s).consumerReady = s.consumerReady := rfl
@[simp] theorem raise_memoryReady (e : ErrInfo) (s : State) : (raise e s).memoryReady = s.memoryReady := rfl
@[simp] theorem raise_items (e : ErrInfo) (s : State) : (raise e s).items = s.items := rfl
@[simp] theorem raise_ranges (e : ErrInfo) (s : State) : (raise e s).ranges = s.ranges := rfl
@[simp] theorem raise_readLog (e : ErrInfo) (s : State) : (raise e s).readLog = s.readLog := rfl
@[simp] theorem raise_inputs (e : ErrInfo) (s : State) : (raise e s).inputs = s.inputs := rfl

/-! ## raiseMalformed -/

@[simp] theorem raiseMalformed_cfg (d : Word) (s : State) : (raiseMalformed d s).cfg = s.cfg := rfl
@[simp] theorem raiseMalformed_status (d : Word) (s : State) : (raiseMalformed d s).status = s.status.failed 3 s.tbl 0 := rfl
@[simp] theorem raiseMalformed_errVa (d : Word) (s : State) : (raiseMalformed d s).errVa = va32 s.va := rfl
@[simp] theorem raiseMalformed_errAddr (d : Word) (s : State) : (raiseMalformed d s).errAddr = s.l1a := rfl
@[simp] theorem raiseMalformed_errData (d : Word) (s : State) : (raiseMalformed d s).errData = d := rfl
@[simp] theorem raiseMalformed_tbl (d : Word) (s : State) : (raiseMalformed d s).tbl = s.tbl := rfl
@[simp] theorem raiseMalformed_va (d : Word) (s : State) : (raiseMalformed d s).va = s.va := rfl
@[simp] theorem raiseMalformed_st (d : Word) (s : State) : (raiseMalformed d s).st = .error := rfl
@[simp] theorem raiseMalformed_l1a (d : Word) (s : State) : (raiseMalformed d s).l1a = s.l1a := rfl
@[simp] theorem raiseMalformed_l1d (d : Word) (s : State) : (raiseMalformed d s).l1d = s.l1d := rfl
@[simp] theorem raiseMalformed_l2a (d : Word) (s : State) : (raiseMalformed d s).l2a = s.l2a := rfl
@[simp] theorem raiseMalformed_l2d (d : Word) (s : State) : (raiseMalformed d s).l2d = s.l2d := rfl
@[simp] theorem raiseMalformed_dom (d : Word) (s : State) : (raiseMalformed d s).dom = s.dom := rfl
@[simp] theorem raiseMalformed_ent (d : Word) (s : State) : (raiseMalformed d s).ent = s.ent := rfl
@[simp] theorem raiseMalformed_entTbl (d : Word) (s : State) : (raiseMalformed d s).entTbl = s.entTbl := rfl
@[simp] theorem raiseMalformed_entKind (d : Word) (s : State) : (raiseMalformed d s).entKind = .none := rfl
@[simp] theorem raiseMalformed_snap (d : Word) (s : State) : (raiseMalformed d s).snap = s.snap := rfl
@[simp] theorem raiseMalformed_cur (d : Word) (s : State) : (raiseMalformed d s).cur = s.cur := rfl
@[simp] theorem raiseMalformed_flush (d : Word) (s : State) : (raiseMalformed d s).flush = .idle := rfl
@[simp] theorem raiseMalformed_direct (d : Word) (s : State) : (raiseMalformed d s).direct = s.direct := rfl
@[simp] theorem raiseMalformed_answers (d : Word) (s : State) : (raiseMalformed d s).answers = s.answers := rfl
@[simp] theorem raiseMalformed_image (d : Word) (s : State) : (raiseMalformed d s).image = s.image := rfl
@[simp] theorem raiseMalformed_coalescer (d : Word) (s : State) : (raiseMalformed d s).coalescer = s.coalescer := rfl
@[simp] theorem raiseMalformed_consumerReady (d : Word) (s : State) : (raiseMalformed d s).consumerReady = s.consumerReady := rfl
@[simp] theorem raiseMalformed_memoryReady (d : Word) (s : State) : (raiseMalformed d s).memoryReady = s.memoryReady := rfl
@[simp] theorem raiseMalformed_items (d : Word) (s : State) : (raiseMalformed d s).items = s.items := rfl
@[simp] theorem raiseMalformed_ranges (d : Word) (s : State) : (raiseMalformed d s).ranges = s.ranges := rfl
@[simp] theorem raiseMalformed_readLog (d : Word) (s : State) : (raiseMalformed d s).readLog = s.readLog := rfl
@[simp] theorem raiseMalformed_inputs (d : Word) (s : State) : (raiseMalformed d s).inputs = s.inputs := rfl

/-! ## beginWalk -/

@[simp] theorem beginWalk_cfg (s : State) : (beginWalk s).cfg = s.cfg := rfl
@[simp] theorem beginWalk_status (s : State) : (beginWalk s).status = s.status.started := rfl
@[simp] theorem beginWalk_errVa (s : State) : (beginWalk s).errVa = s.errVa := rfl
@[simp] theorem beginWalk_errAddr (s : State) : (beginWalk s).errAddr = s.errAddr := rfl
@[simp] theorem beginWalk_errData (s : State) : (beginWalk s).errData = s.errData := rfl
@[simp] theorem beginWalk_tbl (s : State) : (beginWalk s).tbl = 0 := rfl
@[simp] theorem beginWalk_va (s : State) : (beginWalk s).va = s.va := rfl
@[simp] theorem beginWalk_st (s : State) : (beginWalk s).st = .passStart := rfl
@[simp] theorem beginWalk_l1a (s : State) : (beginWalk s).l1a = s.l1a := rfl
@[simp] theorem beginWalk_l1d (s : State) : (beginWalk s).l1d = s.l1d := rfl
@[simp] theorem beginWalk_l2a (s : State) : (beginWalk s).l2a = s.l2a := rfl
@[simp] theorem beginWalk_l2d (s : State) : (beginWalk s).l2d = s.l2d := rfl
@[simp] theorem beginWalk_dom (s : State) : (beginWalk s).dom = s.dom := rfl
@[simp] theorem beginWalk_ent (s : State) : (beginWalk s).ent = s.ent := rfl
@[simp] theorem beginWalk_entTbl (s : State) : (beginWalk s).entTbl = s.entTbl := rfl
@[simp] theorem beginWalk_entKind (s : State) : (beginWalk s).entKind = .none := rfl
@[simp] theorem beginWalk_snap (s : State) : (beginWalk s).snap = s.cfg := rfl
@[simp] theorem beginWalk_cur (s : State) : (beginWalk s).cur = Accumulator.zero := rfl
@[simp] theorem beginWalk_flush (s : State) : (beginWalk s).flush = s.flush := rfl
@[simp] theorem beginWalk_direct (s : State) : (beginWalk s).direct = s.direct := rfl
@[simp] theorem beginWalk_answers (s : State) : (beginWalk s).answers = s.answers := rfl
@[simp] theorem beginWalk_image (s : State) : (beginWalk s).image = s.image := rfl
@[simp] theorem beginWalk_coalescer (s : State) : (beginWalk s).coalescer = s.coalescer := rfl
@[simp] theorem beginWalk_consumerReady (s : State) : (beginWalk s).consumerReady = s.consumerReady := rfl
@[simp] theorem beginWalk_memoryReady (s : State) : (beginWalk s).memoryReady = s.memoryReady := rfl
@[simp] theorem beginWalk_items (s : State) : (beginWalk s).items = s.items := rfl
@[simp] theorem beginWalk_ranges (s : State) : (beginWalk s).ranges = s.ranges := rfl
@[simp] theorem beginWalk_readLog (s : State) : (beginWalk s).readLog = s.readLog := rfl
@[simp] theorem beginWalk_inputs (s : State) : (beginWalk s).inputs = s.inputs := rfl

/-! ## enterPassEnd -/

@[simp] theorem enterPassEnd_cfg (s : State) : (enterPassEnd s).cfg = s.cfg := rfl
@[simp] theorem enterPassEnd_status (s : State) : (enterPassEnd s).status = s.status := rfl
@[simp] theorem enterPassEnd_errVa (s : State) : (enterPassEnd s).errVa = s.errVa := rfl
@[simp] theorem enterPassEnd_errAddr (s : State) : (enterPassEnd s).errAddr = s.errAddr := rfl
@[simp] theorem enterPassEnd_errData (s : State) : (enterPassEnd s).errData = s.errData := rfl
@[simp] theorem enterPassEnd_tbl (s : State) : (enterPassEnd s).tbl = s.tbl := rfl
@[simp] theorem enterPassEnd_va (s : State) : (enterPassEnd s).va = s.va := rfl
@[simp] theorem enterPassEnd_st (s : State) : (enterPassEnd s).st = .passEnd := rfl
@[simp] theorem enterPassEnd_l1a (s : State) : (enterPassEnd s).l1a = s.l1a := rfl
@[simp] theorem enterPassEnd_l1d (s : State) : (enterPassEnd s).l1d = s.l1d := rfl
@[simp] theorem enterPassEnd_l2a (s : State) : (enterPassEnd s).l2a = s.l2a := rfl
@[simp] theorem enterPassEnd_l2d (s : State) : (enterPassEnd s).l2d = s.l2d := rfl
@[simp] theorem enterPassEnd_dom (s : State) : (enterPassEnd s).dom = s.dom := rfl
@[simp] theorem enterPassEnd_ent (s : State) : (enterPassEnd s).ent = s.ent := rfl
@[simp] theorem enterPassEnd_entTbl (s : State) : (enterPassEnd s).entTbl = s.tbl := rfl
@[simp] theorem enterPassEnd_entKind (s : State) : (enterPassEnd s).entKind = .endOfPass := rfl
@[simp] theorem enterPassEnd_snap (s : State) : (enterPassEnd s).snap = s.snap := rfl
@[simp] theorem enterPassEnd_cur (s : State) : (enterPassEnd s).cur = s.cur := rfl
@[simp] theorem enterPassEnd_flush (s : State) : (enterPassEnd s).flush = s.flush := rfl
@[simp] theorem enterPassEnd_direct (s : State) : (enterPassEnd s).direct = s.direct := rfl
@[simp] theorem enterPassEnd_answers (s : State) : (enterPassEnd s).answers = s.answers := rfl
@[simp] theorem enterPassEnd_image (s : State) : (enterPassEnd s).image = s.image := rfl
@[simp] theorem enterPassEnd_coalescer (s : State) : (enterPassEnd s).coalescer = s.coalescer := rfl
@[simp] theorem enterPassEnd_consumerReady (s : State) : (enterPassEnd s).consumerReady = s.consumerReady := rfl
@[simp] theorem enterPassEnd_memoryReady (s : State) : (enterPassEnd s).memoryReady = s.memoryReady := rfl
@[simp] theorem enterPassEnd_items (s : State) : (enterPassEnd s).items = s.items := rfl
@[simp] theorem enterPassEnd_ranges (s : State) : (enterPassEnd s).ranges = s.ranges := rfl
@[simp] theorem enterPassEnd_readLog (s : State) : (enterPassEnd s).readLog = s.readLog := rfl
@[simp] theorem enterPassEnd_inputs (s : State) : (enterPassEnd s).inputs = s.inputs := rfl

/-! ## afterInput -/

@[simp] theorem afterInput_cfg (s : State) (rest : List Input) : (s.afterInput rest).cfg = s.cfg := rfl
@[simp] theorem afterInput_status (s : State) (rest : List Input) : (s.afterInput rest).status = s.status := rfl
@[simp] theorem afterInput_errVa (s : State) (rest : List Input) : (s.afterInput rest).errVa = s.errVa := rfl
@[simp] theorem afterInput_errAddr (s : State) (rest : List Input) : (s.afterInput rest).errAddr = s.errAddr := rfl
@[simp] theorem afterInput_errData (s : State) (rest : List Input) : (s.afterInput rest).errData = s.errData := rfl
@[simp] theorem afterInput_tbl (s : State) (rest : List Input) : (s.afterInput rest).tbl = s.tbl := rfl
@[simp] theorem afterInput_va (s : State) (rest : List Input) : (s.afterInput rest).va = s.va := rfl
@[simp] theorem afterInput_st (s : State) (rest : List Input) : (s.afterInput rest).st = s.st := rfl
@[simp] theorem afterInput_l1a (s : State) (rest : List Input) : (s.afterInput rest).l1a = s.l1a := rfl
@[simp] theorem afterInput_l1d (s : State) (rest : List Input) : (s.afterInput rest).l1d = s.l1d := rfl
@[simp] theorem afterInput_l2a (s : State) (rest : List Input) : (s.afterInput rest).l2a = s.l2a := rfl
@[simp] theorem afterInput_l2d (s : State) (rest : List Input) : (s.afterInput rest).l2d = s.l2d := rfl
@[simp] theorem afterInput_dom (s : State) (rest : List Input) : (s.afterInput rest).dom = s.dom := rfl
@[simp] theorem afterInput_ent (s : State) (rest : List Input) : (s.afterInput rest).ent = s.ent := rfl
@[simp] theorem afterInput_entTbl (s : State) (rest : List Input) : (s.afterInput rest).entTbl = s.entTbl := rfl
@[simp] theorem afterInput_entKind (s : State) (rest : List Input) : (s.afterInput rest).entKind = s.entKind := rfl
@[simp] theorem afterInput_snap (s : State) (rest : List Input) : (s.afterInput rest).snap = s.snap := rfl
@[simp] theorem afterInput_cur (s : State) (rest : List Input) : (s.afterInput rest).cur = s.cur := rfl
@[simp] theorem afterInput_flush (s : State) (rest : List Input) : (s.afterInput rest).flush = s.flush := rfl
@[simp] theorem afterInput_direct (s : State) (rest : List Input) : (s.afterInput rest).direct = s.direct := rfl
@[simp] theorem afterInput_answers (s : State) (rest : List Input) : (s.afterInput rest).answers = s.answers := rfl
@[simp] theorem afterInput_image (s : State) (rest : List Input) : (s.afterInput rest).image = s.image := rfl
@[simp] theorem afterInput_coalescer (s : State) (rest : List Input) : (s.afterInput rest).coalescer = s.coalescer := rfl
@[simp] theorem afterInput_consumerReady (s : State) (rest : List Input) : (s.afterInput rest).consumerReady = s.consumerReady := rfl
@[simp] theorem afterInput_memoryReady (s : State) (rest : List Input) : (s.afterInput rest).memoryReady = s.memoryReady := rfl
@[simp] theorem afterInput_items (s : State) (rest : List Input) : (s.afterInput rest).items = s.items := rfl
@[simp] theorem afterInput_ranges (s : State) (rest : List Input) : (s.afterInput rest).ranges = s.ranges := rfl
@[simp] theorem afterInput_readLog (s : State) (rest : List Input) : (s.afterInput rest).readLog = s.readLog := rfl
@[simp] theorem afterInput_inputs (s : State) (rest : List Input) : (s.afterInput rest).inputs = rest := rfl

/-! ## deliverPolicy -/

@[simp] theorem deliverPolicy_cfg (p : Policy) (s : State) : (deliverPolicy p s).cfg = s.cfg := rfl
@[simp] theorem deliverPolicy_status (p : Policy) (s : State) : (deliverPolicy p s).status = s.status := rfl
@[simp] theorem deliverPolicy_errVa (p : Policy) (s : State) : (deliverPolicy p s).errVa = s.errVa := rfl
@[simp] theorem deliverPolicy_errAddr (p : Policy) (s : State) : (deliverPolicy p s).errAddr = s.errAddr := rfl
@[simp] theorem deliverPolicy_errData (p : Policy) (s : State) : (deliverPolicy p s).errData = s.errData := rfl
@[simp] theorem deliverPolicy_tbl (p : Policy) (s : State) : (deliverPolicy p s).tbl = s.tbl := rfl
@[simp] theorem deliverPolicy_va (p : Policy) (s : State) : (deliverPolicy p s).va = s.va := rfl
@[simp] theorem deliverPolicy_st (p : Policy) (s : State) : (deliverPolicy p s).st = s.st := rfl
@[simp] theorem deliverPolicy_l1a (p : Policy) (s : State) : (deliverPolicy p s).l1a = s.l1a := rfl
@[simp] theorem deliverPolicy_l1d (p : Policy) (s : State) : (deliverPolicy p s).l1d = s.l1d := rfl
@[simp] theorem deliverPolicy_l2a (p : Policy) (s : State) : (deliverPolicy p s).l2a = s.l2a := rfl
@[simp] theorem deliverPolicy_l2d (p : Policy) (s : State) : (deliverPolicy p s).l2d = s.l2d := rfl
@[simp] theorem deliverPolicy_dom (p : Policy) (s : State) : (deliverPolicy p s).dom = s.dom := rfl
@[simp] theorem deliverPolicy_ent (p : Policy) (s : State) : (deliverPolicy p s).ent = s.ent := rfl
@[simp] theorem deliverPolicy_entTbl (p : Policy) (s : State) : (deliverPolicy p s).entTbl = s.entTbl := rfl
@[simp] theorem deliverPolicy_entKind (p : Policy) (s : State) : (deliverPolicy p s).entKind = s.entKind := rfl
@[simp] theorem deliverPolicy_snap (p : Policy) (s : State) : (deliverPolicy p s).snap = s.snap := rfl
@[simp] theorem deliverPolicy_cur (p : Policy) (s : State) : (deliverPolicy p s).cur = s.cur := rfl
@[simp] theorem deliverPolicy_flush (p : Policy) (s : State) : (deliverPolicy p s).flush = s.flush := rfl
@[simp] theorem deliverPolicy_direct (p : Policy) (s : State) : (deliverPolicy p s).direct = none := rfl
@[simp] theorem deliverPolicy_answers (p : Policy) (s : State) : (deliverPolicy p s).answers = { s.answers with policy := .label p } := rfl
@[simp] theorem deliverPolicy_image (p : Policy) (s : State) : (deliverPolicy p s).image = s.image := rfl
@[simp] theorem deliverPolicy_coalescer (p : Policy) (s : State) : (deliverPolicy p s).coalescer = s.coalescer := rfl
@[simp] theorem deliverPolicy_consumerReady (p : Policy) (s : State) : (deliverPolicy p s).consumerReady = s.consumerReady := rfl
@[simp] theorem deliverPolicy_memoryReady (p : Policy) (s : State) : (deliverPolicy p s).memoryReady = s.memoryReady := rfl
@[simp] theorem deliverPolicy_items (p : Policy) (s : State) : (deliverPolicy p s).items = s.items := rfl
@[simp] theorem deliverPolicy_ranges (p : Policy) (s : State) : (deliverPolicy p s).ranges = s.ranges := rfl
@[simp] theorem deliverPolicy_readLog (p : Policy) (s : State) : (deliverPolicy p s).readLog = s.readLog := rfl
@[simp] theorem deliverPolicy_inputs (p : Policy) (s : State) : (deliverPolicy p s).inputs = s.inputs := rfl

/-! ## placeQuery -/

@[simp] theorem placeQuery_cfg (q : AttrQuery) (s : State) : (placeQuery q s).cfg = s.cfg := rfl
@[simp] theorem placeQuery_status (q : AttrQuery) (s : State) : (placeQuery q s).status = s.status := rfl
@[simp] theorem placeQuery_errVa (q : AttrQuery) (s : State) : (placeQuery q s).errVa = s.errVa := rfl
@[simp] theorem placeQuery_errAddr (q : AttrQuery) (s : State) : (placeQuery q s).errAddr = s.errAddr := rfl
@[simp] theorem placeQuery_errData (q : AttrQuery) (s : State) : (placeQuery q s).errData = s.errData := rfl
@[simp] theorem placeQuery_tbl (q : AttrQuery) (s : State) : (placeQuery q s).tbl = s.tbl := rfl
@[simp] theorem placeQuery_va (q : AttrQuery) (s : State) : (placeQuery q s).va = s.va := rfl
@[simp] theorem placeQuery_st (q : AttrQuery) (s : State) : (placeQuery q s).st = s.st := rfl
@[simp] theorem placeQuery_l1a (q : AttrQuery) (s : State) : (placeQuery q s).l1a = s.l1a := rfl
@[simp] theorem placeQuery_l1d (q : AttrQuery) (s : State) : (placeQuery q s).l1d = s.l1d := rfl
@[simp] theorem placeQuery_l2a (q : AttrQuery) (s : State) : (placeQuery q s).l2a = s.l2a := rfl
@[simp] theorem placeQuery_l2d (q : AttrQuery) (s : State) : (placeQuery q s).l2d = s.l2d := rfl
@[simp] theorem placeQuery_dom (q : AttrQuery) (s : State) : (placeQuery q s).dom = s.dom := rfl
@[simp] theorem placeQuery_ent (q : AttrQuery) (s : State) : (placeQuery q s).ent = s.ent := rfl
@[simp] theorem placeQuery_entTbl (q : AttrQuery) (s : State) : (placeQuery q s).entTbl = s.entTbl := rfl
@[simp] theorem placeQuery_entKind (q : AttrQuery) (s : State) : (placeQuery q s).entKind = s.entKind := rfl
@[simp] theorem placeQuery_snap (q : AttrQuery) (s : State) : (placeQuery q s).snap = s.snap := rfl
@[simp] theorem placeQuery_cur (q : AttrQuery) (s : State) : (placeQuery q s).cur = s.cur := rfl
@[simp] theorem placeQuery_flush (q : AttrQuery) (s : State) : (placeQuery q s).flush = s.flush := rfl
@[simp] theorem placeQuery_direct (q : AttrQuery) (s : State) : (placeQuery q s).direct = some q := rfl
@[simp] theorem placeQuery_answers (q : AttrQuery) (s : State) : (placeQuery q s).answers = s.answers := rfl
@[simp] theorem placeQuery_image (q : AttrQuery) (s : State) : (placeQuery q s).image = s.image := rfl
@[simp] theorem placeQuery_coalescer (q : AttrQuery) (s : State) : (placeQuery q s).coalescer = s.coalescer := rfl
@[simp] theorem placeQuery_consumerReady (q : AttrQuery) (s : State) : (placeQuery q s).consumerReady = s.consumerReady := rfl
@[simp] theorem placeQuery_memoryReady (q : AttrQuery) (s : State) : (placeQuery q s).memoryReady = s.memoryReady := rfl
@[simp] theorem placeQuery_items (q : AttrQuery) (s : State) : (placeQuery q s).items = s.items := rfl
@[simp] theorem placeQuery_ranges (q : AttrQuery) (s : State) : (placeQuery q s).ranges = s.ranges := rfl
@[simp] theorem placeQuery_readLog (q : AttrQuery) (s : State) : (placeQuery q s).readLog = s.readLog := rfl
@[simp] theorem placeQuery_inputs (q : AttrQuery) (s : State) : (placeQuery q s).inputs = s.inputs := rfl

/-! ## applyReset -/

@[simp] theorem applyReset_cfg (s : State) : (applyReset s).cfg = State.reset.cfg := rfl
@[simp] theorem applyReset_status (s : State) : (applyReset s).status = State.reset.status := rfl
@[simp] theorem applyReset_errVa (s : State) : (applyReset s).errVa = State.reset.errVa := rfl
@[simp] theorem applyReset_errAddr (s : State) : (applyReset s).errAddr = State.reset.errAddr := rfl
@[simp] theorem applyReset_errData (s : State) : (applyReset s).errData = State.reset.errData := rfl
@[simp] theorem applyReset_tbl (s : State) : (applyReset s).tbl = State.reset.tbl := rfl
@[simp] theorem applyReset_va (s : State) : (applyReset s).va = State.reset.va := rfl
@[simp] theorem applyReset_st (s : State) : (applyReset s).st = State.reset.st := rfl
@[simp] theorem applyReset_l1a (s : State) : (applyReset s).l1a = State.reset.l1a := rfl
@[simp] theorem applyReset_l1d (s : State) : (applyReset s).l1d = State.reset.l1d := rfl
@[simp] theorem applyReset_l2a (s : State) : (applyReset s).l2a = State.reset.l2a := rfl
@[simp] theorem applyReset_l2d (s : State) : (applyReset s).l2d = State.reset.l2d := rfl
@[simp] theorem applyReset_dom (s : State) : (applyReset s).dom = State.reset.dom := rfl
@[simp] theorem applyReset_ent (s : State) : (applyReset s).ent = State.reset.ent := rfl
@[simp] theorem applyReset_entTbl (s : State) : (applyReset s).entTbl = State.reset.entTbl := rfl
@[simp] theorem applyReset_entKind (s : State) : (applyReset s).entKind = State.reset.entKind := rfl
@[simp] theorem applyReset_snap (s : State) : (applyReset s).snap = State.reset.snap := rfl
@[simp] theorem applyReset_cur (s : State) : (applyReset s).cur = State.reset.cur := rfl
@[simp] theorem applyReset_flush (s : State) : (applyReset s).flush = State.reset.flush := rfl
@[simp] theorem applyReset_direct (s : State) : (applyReset s).direct = State.reset.direct := rfl
@[simp] theorem applyReset_answers (s : State) : (applyReset s).answers = s.answers := rfl
@[simp] theorem applyReset_image (s : State) : (applyReset s).image = s.image := rfl
@[simp] theorem applyReset_coalescer (s : State) : (applyReset s).coalescer = s.coalescer := rfl
@[simp] theorem applyReset_consumerReady (s : State) : (applyReset s).consumerReady = s.consumerReady := rfl
@[simp] theorem applyReset_memoryReady (s : State) : (applyReset s).memoryReady = s.memoryReady := rfl
@[simp] theorem applyReset_items (s : State) : (applyReset s).items = s.items := rfl
@[simp] theorem applyReset_ranges (s : State) : (applyReset s).ranges = s.ranges := rfl
@[simp] theorem applyReset_readLog (s : State) : (applyReset s).readLog = s.readLog := rfl
@[simp] theorem applyReset_inputs (s : State) : (applyReset s).inputs = s.inputs := rfl

/-! ## STATUS -/

@[simp] theorem started_busy (f : Status) : f.started.busy = true := rfl
@[simp] theorem started_done (f : Status) : f.started.done = false := rfl
@[simp] theorem started_err (f : Status) : f.started.err = f.err := rfl
@[simp] theorem finished_busy (f : Status) : f.finished.busy = false := rfl
@[simp] theorem finished_done (f : Status) : f.finished.done = true := rfl
@[simp] theorem finished_err (f : Status) : f.finished.err = f.err := rfl
@[simp] theorem failed_busy (f : Status) (c : BitVec 3) (t l : BitVec 1) : (f.failed c t l).busy = false := rfl
@[simp] theorem failed_done (f : Status) (c : BitVec 3) (t l : BitVec 1) : (f.failed c t l).done = f.done := rfl
@[simp] theorem failed_err (f : Status) (c : BitVec 3) (t l : BitVec 1) : (f.failed c t l).err = true := rfl
@[simp] theorem failed_errCode (f : Status) (c : BitVec 3) (t l : BitVec 1) : (f.failed c t l).errCode = c := rfl
@[simp] theorem failed_errTbl (f : Status) (c : BitVec 3) (t l : BitVec 1) : (f.failed c t l).errTbl = t := rfl
@[simp] theorem failed_errLvl (f : Status) (c : BitVec 3) (t l : BitVec 1) : (f.failed c t l).errLvl = l := rfl

/-! ## The accumulator -/

@[simp] theorem Accumulator.zero_valid : Accumulator.zero.valid = false := rfl
@[simp] theorem Accumulator.zero_vstart : Accumulator.zero.vstart = 0 := rfl
@[simp] theorem Accumulator.zero_size : Accumulator.zero.size = 0 := rfl
@[simp] theorem Accumulator.zero_off : Accumulator.zero.off = 0 := rfl
@[simp] theorem Accumulator.zero_ap : Accumulator.zero.ap = 0 := rfl
@[simp] theorem Accumulator.zero_xn : Accumulator.zero.xn = 0 := rfl
@[simp] theorem Accumulator.zero_texcb : Accumulator.zero.texcb = 0 := rfl

@[simp] theorem Accumulator.extend_valid (c : Accumulator) : (c.extend).valid = c.valid := by simp only [Accumulator.extend]
@[simp] theorem Accumulator.extend_vstart (c : Accumulator) : (c.extend).vstart = c.vstart := by simp only [Accumulator.extend]
@[simp] theorem Accumulator.extend_size (c : Accumulator) : (c.extend).size = c.size + granule := by simp only [Accumulator.extend]
@[simp] theorem Accumulator.extend_off (c : Accumulator) : (c.extend).off = c.off := by simp only [Accumulator.extend]
@[simp] theorem Accumulator.extend_ap (c : Accumulator) : (c.extend).ap = c.ap := by simp only [Accumulator.extend]
@[simp] theorem Accumulator.extend_xn (c : Accumulator) : (c.extend).xn = c.xn := by simp only [Accumulator.extend]
@[simp] theorem Accumulator.extend_texcb (c : Accumulator) : (c.extend).texcb = c.texcb := by simp only [Accumulator.extend]

@[simp] theorem Accumulator.emptied_valid (c : Accumulator) : (c.emptied).valid = false := by simp only [Accumulator.emptied]
@[simp] theorem Accumulator.emptied_vstart (c : Accumulator) : (c.emptied).vstart = c.vstart := by simp only [Accumulator.emptied]
@[simp] theorem Accumulator.emptied_size (c : Accumulator) : (c.emptied).size = c.size := by simp only [Accumulator.emptied]
@[simp] theorem Accumulator.emptied_off (c : Accumulator) : (c.emptied).off = c.off := by simp only [Accumulator.emptied]
@[simp] theorem Accumulator.emptied_ap (c : Accumulator) : (c.emptied).ap = c.ap := by simp only [Accumulator.emptied]
@[simp] theorem Accumulator.emptied_xn (c : Accumulator) : (c.emptied).xn = c.xn := by simp only [Accumulator.emptied]
@[simp] theorem Accumulator.emptied_texcb (c : Accumulator) : (c.emptied).texcb = c.texcb := by simp only [Accumulator.emptied]

@[simp] theorem Accumulator.startedBy_valid (e : MappingEntry) : (Accumulator.startedBy e).valid = true := by simp only [Accumulator.startedBy]
@[simp] theorem Accumulator.startedBy_vstart (e : MappingEntry) : (Accumulator.startedBy e).vstart = e.virtualAddress := by simp only [Accumulator.startedBy]
@[simp] theorem Accumulator.startedBy_size (e : MappingEntry) : (Accumulator.startedBy e).size = granule := by simp only [Accumulator.startedBy]
@[simp] theorem Accumulator.startedBy_off (e : MappingEntry) : (Accumulator.startedBy e).off = offsetOf e := by simp only [Accumulator.startedBy]
@[simp] theorem Accumulator.startedBy_ap (e : MappingEntry) : (Accumulator.startedBy e).ap = e.accessPermission := by simp only [Accumulator.startedBy]
@[simp] theorem Accumulator.startedBy_xn (e : MappingEntry) : (Accumulator.startedBy e).xn = e.executeNever := by simp only [Accumulator.startedBy]
@[simp] theorem Accumulator.startedBy_texcb (e : MappingEntry) : (Accumulator.startedBy e).texcb = e.cacheAttrs := by simp only [Accumulator.startedBy]

end Sys2Proof.Machine
end

