-- ==== Sys2Proof/Laws/Step.lean ====
section
/-! SUPPORT. The step, taken apart: what it does with an action, whose move it is for each input, and what the block's
move is in each state. -/

namespace Sys2Proof.Machine

/-- What a step does with an action. -/
def Action.outcome : Action → Host.Outcome State Fault Refusal
  | .run e s =>
    match decode e with
    | .ok i => exec i s
    | .error _ => .next s
  | .other o => o

@[simp] theorem Action.outcome_other (o : Host.Outcome State Fault Refusal) : (Action.other o).outcome = o := rfl
@[simp] theorem Action.outcome_l1 (w : Word) (s : State) : (Action.run (.l1 w) s).outcome = exec (decodeL1 w) s := rfl
@[simp] theorem Action.outcome_l2 (w : Word) (s : State) : (Action.run (.l2 w) s).outcome = exec (decodeL2 w) s := rfl
@[simp] theorem Action.outcome_ap (v : BitVec 3) (s : State) : (Action.run (.ap v) s).outcome = exec (decodeAP3 v) s := rfl
@[simp] theorem Action.outcome_texcb (v : BitVec 5) (s : State) :
    (Action.run (.texcb v) s).outcome = exec (decodeTEXCB5 v) s := rfl
@[simp] theorem Action.outcome_cache (v : BitVec 2) (s : State) :
    (Action.run (.cache v) s).outcome = exec (decodeCACHE2 v) s := rfl
@[simp] theorem Action.outcome_xn (v : BitVec 1) (s : State) : (Action.run (.xn v) s).outcome = exec (decodeXN1 v) s := rfl

theorem step_eq_outcome (s : State) : step s = (nextAction s).outcome := by
  unfold step Action.outcome
  rfl

/-! ## Whose move it is -/

theorem nextAction_direct {s : State} {q : AttrQuery} (h : s.direct = some q) : nextAction s = .run q.encoded s := by
  simp [nextAction, h]

theorem nextAction_block {s : State} (hd : s.direct = none) (hi : s.inputs = []) : nextAction s = blockAction s := by
  simp [nextAction, hd, hi]

theorem nextAction_input {s : State} {i : Input} {rest : List Input} (hd : s.direct = none) (hi : s.inputs = i :: rest) :
    nextAction s =
      match i with
      | .proceed => blockAction (s.afterInput rest)
      | .hold => .other (.next (s.afterInput rest))
      | .consumer ready => .other (.next { s.afterInput rest with consumerReady := ready })
      | .memory ready => .other (.next { s.afterInput rest with memoryReady := ready })
      | .write reg v => hostWrite reg v (s.afterInput rest)
      | .read reg => .other (hostRead reg (s.afterInput rest))
      | .reset => .other (.next (applyReset (s.afterInput rest)))
      | .loadImage cells => .other (hostLoad cells (s.afterInput rest))
      | .decode q => .other (.next { s.afterInput rest with direct := some q })
      | .poll => if s.status.busy then blockAction s else .other (.next (s.afterInput rest))
      | .stopOnError => .other (.next (s.afterInput (if s.status.err then [] else rest))) := by
  cases i <;> simp [nextAction, hd, hi]

/-! ## The block's move -/

theorem blockAction_walk {s : State} (hf : s.flush = .idle) : blockAction s =
    match s.st with
    | .idle => .other (.next s)
    | .passStart => .other (.next (startPass s))
    | .route => .other (.next (routeGranule s))
    | .l1Fetch => .other (.next (whenReady s.memoryReady fetchL1 s))
    | .l1Decode => .run (.l1 s.l1d) s
    | .l2Fetch => .other (.next (whenReady s.memoryReady fetchL2 s))
    | .l2Decode => .run (.l2 s.l2d) s
    | .emit => .other (offerStep s)
    | .advance => .other (.next (advance s))
    | .passEnd => .other (offerStep s)
    | .done => .other (.next s)
    | .error => .other (.next s) := by
  cases h : s.st <;> simp only [blockAction, hf, h]

theorem blockAction_texcb {s : State} {item : StreamItem} (hf : s.flush = .texcb item) :
    blockAction s = .run (.texcb s.cur.texcb) s := by simp only [blockAction, hf]

theorem blockAction_ap {s : State} {item : StreamItem} {c : CacheLabel} (hf : s.flush = .ap item c) :
    blockAction s = .run (.ap s.cur.ap) s := by simp only [blockAction, hf]

theorem blockAction_xn {s : State} {item : StreamItem} {c : CacheLabel} {p : AccessLabel} (hf : s.flush = .xn item c p) :
    blockAction s = .run (.xn s.cur.xn) s := by simp only [blockAction, hf]

theorem blockAction_emit {s : State} {item : StreamItem} {c : CacheLabel} {p : AccessLabel} {x : Bool}
    (hf : s.flush = .emit item c p x) :
    blockAction s = .other (.next (whenReady s.consumerReady (finishFlush item c p x) s)) := by
  simp only [blockAction, hf]

theorem offerStep_some {s : State} {item : StreamItem} (h : offered s = some item) :
    offerStep s = .next (whenReady (consumerTakes s) (takeItem item) s) := by
  simp [offerStep, h]

/-- An item that the consumer takes (R147, R149). -/
theorem offerStep_taken {s : State} {item : StreamItem} (h : offered s = some item) (hc : consumerTakes s = true) :
    offerStep s = .next (takeItem item s) := by
  rw [offerStep_some h, hc, whenReady_true]

/-- An item that the consumer does not take (R303). -/
theorem offerStep_held {s : State} {item : StreamItem} (h : offered s = some item) (hc : consumerTakes s = false) :
    offerStep s = .next s := by
  rw [offerStep_some h, hc, whenReady_false]

end Sys2Proof.Machine
end

