-- ==== Sys2Proof/Laws/StepCases.lean ====
section
/-! SUPPORT. What running a word does in each format, read on the word itself, and everything a step that answers a next
state can have done: proofs cite these and do not unfold the decoder, the dispatch or the step. -/

namespace Sys2Proof.Machine

/-! ## Words of each format -/

theorem type_of_low5 {d : Word} (h0 : d.extractLsb' 0 2 = 1) (h2 : d.getLsbD 2 = false) (h3 : d.getLsbD 3 = false) (h4 : d.getLsbD 4 = false) :
    d.extractLsb' 0 5 = 1 := by
  obtain ⟨a, b⟩ := type_one.mp h0
  apply BitVec.eq_of_getLsbD_eq
  intro i hi
  interval_cases i <;> simp_all

theorem decodePageTable_cases (d : Word) :
    (∃ f, decodePageTable (pageTableFieldsOf d) = .l1PageTableMalformedBit2 f ∧ f = pageTableFieldsOf d ∧ d.getLsbD 2 = true) ∨
    (∃ f, decodePageTable (pageTableFieldsOf d) = .l1PageTableMalformedBit3 f ∧ f = pageTableFieldsOf d ∧ d.getLsbD 2 = false ∧ d.getLsbD 3 = true) ∨
    (∃ f, decodePageTable (pageTableFieldsOf d) = .l1PageTableMalformedBit4 f ∧ f = pageTableFieldsOf d ∧ d.getLsbD 2 = false ∧ d.getLsbD 3 = false ∧ d.getLsbD 4 = true) ∨
    (decodePageTable (pageTableFieldsOf d) = .l1PageTable (pageTableFieldsOf d) ∧ d.getLsbD 2 = false ∧ d.getLsbD 3 = false ∧ d.getLsbD 4 = false) := by
  have e2 : (pageTableFieldsOf d).sbz.getLsbD 0 = d.getLsbD 2 := by simp [pageTableFieldsOf]
  have e3 : (pageTableFieldsOf d).sbz.getLsbD 1 = d.getLsbD 3 := by simp [pageTableFieldsOf]
  have e4 : (pageTableFieldsOf d).sbz.getLsbD 2 = d.getLsbD 4 := by simp [pageTableFieldsOf]
  unfold decodePageTable
  rw [e2, e3, e4]
  cases h2 : d.getLsbD 2 <;> cases h3 : d.getLsbD 3 <;> cases h4 : d.getLsbD 4 <;> simp

theorem exec_decodeL1_cases (d : Word) (s : State) :
    ((d.extractLsb' 0 2 = 0 ∨ d.extractLsb' 0 2 = 3) ∧ exec (decodeL1 d) s = .next (skipGranule s)) ∨
    (d.extractLsb' 0 2 = 1 ∧ d.extractLsb' 1 4 ≠ 0 ∧ exec (decodeL1 d) s = .next (raiseMalformed d s)) ∨
    (d.extractLsb' 0 2 = 1 ∧ d.extractLsb' 1 4 = 0 ∧ d.extractLsb' 0 5 = 1 ∧ exec (decodeL1 d) s = .next { s with dom := d.extractLsb' 5 4, st := .l2Fetch }) ∨
    (d.extractLsb' 0 2 = 2 ∧ d.getLsbD 18 = true ∧ exec (decodeL1 d) s = .next (emitEntry ⟨va32 s.va, BigStep.paSsec d (va32 s.va), BigStep.apSec d, BigStep.texcbSec d, BigStep.xnSec d⟩ s)) ∨
    (d.extractLsb' 0 2 = 2 ∧ d.getLsbD 18 = false ∧ exec (decodeL1 d) s = .next (emitEntry ⟨va32 s.va, BigStep.paSec d (va32 s.va), BigStep.apSec d, BigStep.texcbSec d, BigStep.xnSec d⟩ s)) := by
  have h4 : ∀ t : BitVec 2, t = 0 ∨ t = 1 ∨ t = 2 ∨ t = 3 := by decide
  rcases h4 (d.extractLsb' 0 2) with h | h | h | h
  · left; exact ⟨Or.inl h, by simp [decodeL1, h, exec, execL1Fault]⟩
  · right
    have hw := pageTableWord_fieldsOf h
    have hdec : decodeL1 d = decodePageTable (pageTableFieldsOf d) := by simp [decodeL1, h]
    rw [hdec]
    rcases decodePageTable_cases d with ⟨f, hd, rfl, hb⟩ | ⟨f, hd, rfl, hb, hb'⟩ | ⟨f, hd, rfl, hb, hb', hb''⟩ | ⟨hd, hb2, hb3, hb4⟩
    · left; refine ⟨h, ?_, ?_⟩
      · rw [ne_eq, sbz_zero h]; simp [hb]
      · rw [hd]; simp [exec, execL1PageTableMalformedBit2, hw]
    · left; refine ⟨h, ?_, ?_⟩
      · rw [ne_eq, sbz_zero h]; simp [hb']
      · rw [hd]; simp [exec, execL1PageTableMalformedBit3, hw]
    · left; refine ⟨h, ?_, ?_⟩
      · rw [ne_eq, sbz_zero h]; simp [hb'']
      · rw [hd]; simp [exec, execL1PageTableMalformedBit4, hw]
    · right; left
      refine ⟨h, (sbz_zero h).mpr ⟨hb2, hb3, hb4⟩, type_of_low5 h hb2 hb3 hb4, ?_⟩
      rw [hd]; simp only [exec, execL1PageTable]; rfl
  · right; right; right
    cases h18 : d.getLsbD 18
    · right; refine ⟨h, rfl, ?_⟩
      rw [decodeL1, h, h18]; simp [exec, execL1Section, sectionEntry_of_word]
    · left; refine ⟨h, rfl, ?_⟩
      rw [decodeL1, h, h18]; simp [exec, execL1Supersection, supersectionEntry_of_word]
  · left; exact ⟨Or.inr h, by simp [decodeL1, h, exec, execL1Reserved]⟩

theorem exec_decodeL1 (d : Word) (s : State) : exec (decodeL1 d) s = .next (
   if d.extractLsb' 0 2 = 0 ∨ d.extractLsb' 0 2 = 3 then skipGranule s
   else if d.extractLsb' 0 2 = 1 then
     if d.extractLsb' 1 4 ≠ 0 then raiseMalformed d s
     else { s with dom := d.extractLsb' 5 4, st := .l2Fetch }
   else if d.getLsbD 18 then emitEntry ⟨va32 s.va, BigStep.paSsec d (va32 s.va), BigStep.apSec d, BigStep.texcbSec d, BigStep.xnSec d⟩ s
   else emitEntry ⟨va32 s.va, BigStep.paSec d (va32 s.va), BigStep.apSec d, BigStep.texcbSec d, BigStep.xnSec d⟩ s) := by
  rcases exec_decodeL1_cases d s with ⟨h, e⟩ | ⟨h, h', e⟩ | ⟨h, h', _, e⟩ | ⟨h, h', e⟩ | ⟨h, h', e⟩ <;> rw [e]
  · rw [if_pos h]
  · rw [if_neg (by rw [h]; decide), if_pos h, if_pos h']
  · rw [if_neg (by rw [h]; decide), if_pos h, if_neg (by simpa using h')]
  · rw [if_neg (by rw [h]; decide), if_neg (by rw [h]; decide), if_pos h']
  · rw [if_neg (by rw [h]; decide), if_neg (by rw [h]; decide), if_neg (by rw [h']; decide)]

theorem exec_decodeL2_cases (d : Word) (s : State) :
    (d.extractLsb' 0 2 = 0 ∧ exec (decodeL2 d) s = .next (skipGranule s)) ∨
    (d.extractLsb' 0 2 = 1 ∧ exec (decodeL2 d) s = .next (emitEntry ⟨va32 s.va, BigStep.paLargeWord d (va32 s.va), BigStep.apL2 d, BigStep.texcbLarge d, BigStep.xnLarge d⟩ s)) ∨
    ((d.extractLsb' 0 2 = 2 ∨ d.extractLsb' 0 2 = 3) ∧ exec (decodeL2 d) s = .next (emitEntry ⟨va32 s.va, BigStep.paSmallWord d (va32 s.va), BigStep.apL2 d, BigStep.texcbSmall d, BigStep.xnSmall d⟩ s)) := by
  have h4 : ∀ t : BitVec 2, t = 0 ∨ t = 1 ∨ t = 2 ∨ t = 3 := by decide
  rcases h4 (d.extractLsb' 0 2) with h | h | h | h
  · obtain ⟨a, b⟩ := type_zero.mp h
    left; exact ⟨h, by rw [decodeL2, a, b]; simp [exec, execL2Fault]⟩
  · obtain ⟨a, b⟩ := type_one.mp h
    right; left; exact ⟨h, by rw [decodeL2, a, b]; simp [exec, execL2LargePage, largePageEntry_of_word]⟩
  · obtain ⟨a, b⟩ := type_two.mp h
    right; right; exact ⟨Or.inl h, by rw [decodeL2, b]; simp [exec, execL2SmallPage, smallPageEntry_of_word]⟩
  · obtain ⟨a, b⟩ := type_three.mp h
    right; right; exact ⟨Or.inr h, by rw [decodeL2, b]; simp [exec, execL2SmallPage, smallPageEntry_of_word]⟩

theorem exec_decodeL2 (d : Word) (s : State) : exec (decodeL2 d) s = .next (
   if d.extractLsb' 0 2 = 0 then skipGranule s
   else if d.extractLsb' 0 2 = 1 then emitEntry ⟨va32 s.va, BigStep.paLargeWord d (va32 s.va), BigStep.apL2 d, BigStep.texcbLarge d, BigStep.xnLarge d⟩ s
   else emitEntry ⟨va32 s.va, BigStep.paSmallWord d (va32 s.va), BigStep.apL2 d, BigStep.texcbSmall d, BigStep.xnSmall d⟩ s) := by
  rcases exec_decodeL2_cases d s with ⟨h, e⟩ | ⟨h, e⟩ | ⟨h, e⟩ <;> rw [e]
  · rw [if_pos h]
  · rw [if_neg (by rw [h]; decide), if_pos h]
  · rw [if_neg (by rcases h with h | h <;> rw [h] <;> decide), if_neg (by rcases h with h | h <;> rw [h] <;> decide)]

theorem exec_decodeTEXCB5 (t : BitVec 5) (s : State) : exec (decodeTEXCB5 t) s =
    .next (match BigStep.decodeTexcb t with | some c => deliverCacheAttr c s | none => failCacheAttr t s) := by
  unfold decodeTEXCB5 BigStep.decodeTexcb
  split_ifs <;> rfl

theorem exec_decodeAP3 (v : BitVec 3) (s : State) : exec (decodeAP3 v) s =
    .next (match BigStep.decodeAp v with | some p => deliverAccess p s | none => failAccess v s) := by
  have h8 : ∀ v : BitVec 3, v = 0 ∨ v = 1 ∨ v = 2 ∨ v = 3 ∨ v = 4 ∨ v = 5 ∨ v = 6 ∨ v = 7 := by decide
  rcases h8 v with rfl | rfl | rfl | rfl | rfl | rfl | rfl | rfl <;> rfl

theorem exec_decodeXN1 (v : BitVec 1) (s : State) : exec (decodeXN1 v) s = .next (deliverExecuteNever (BigStep.decodeXn v) s) := by
  have h2 : ∀ v : BitVec 1, v = 0 ∨ v = 1 := by decide
  rcases h2 v with rfl | rfl <;> rfl

theorem exec_decodeCACHE2 (v : BitVec 2) (s : State) : exec (decodeCACHE2 v) s = .next (deliverPolicy (cacheability v) s) := by
  have h2 : ∀ v : BitVec 2, v = 0 ∨ v = 1 ∨ v = 2 ∨ v = 3 := by decide
  rcases h2 v with rfl | rfl | rfl | rfl <;> rfl

/-! ## The step -/

theorem step_quiet {s : State} (h : s.quiet) : step s = (blockAction s).outcome := by
  rw [step_eq_outcome, nextAction_block h.1 h.2]

theorem run_succ {n : Nat} {s t : State} (h : step s = .next t) :
    Host.Core.run core (n + 1) s = Host.Core.run core n t := by
  have : core.step s = .next t := h
  simp only [Host.Core.run, this]

/-- A state that a step does not change stays for any number of steps. -/
theorem run_stays {s : State} (h : step s = .next s) (n : Nat) : Host.Core.run core n s = .next s := by
  induction n with
  | zero => rfl
  | succ n ih => rw [run_succ h, ih]

/-- The move of a block that waits for a party outside (R303, U10, U11): none. -/
theorem blockAction_stalled {s : State} (h : s.stalled) : blockAction s = .other (.next s) := by
  rcases h with ⟨hc, hco, hf, hs, hk⟩ | ⟨hc, item, c, p, x, hf⟩ | ⟨hm, hf, hs⟩
  · obtain ⟨item, ho⟩ : ∃ item, offered s = some item := by
      unfold offered; cases hk' : s.entKind <;> simp_all
    have ho := offerStep_held ho (by rw [consumerTakes_absent hco, hc])
    rw [blockAction_walk hf]; rcases hs with hs | hs <;> simp only [hs, ho]
  · rw [blockAction_emit hf, hc, whenReady_false]
  · rw [blockAction_walk hf]; rcases hs with hs | hs <;> simp only [hs, hm, whenReady_false]

/-- Everything a step that answers a next state can have done. -/
theorem step_cases {s t : State} (h : step s = .next t) :
    (s.direct ≠ none ∧ ∃ a, t = { s with direct := none, answers := a }) ∨
    (s.direct = none ∧ (s.inputs = [] ∨ ∃ r, s.inputs = .poll :: r ∧ s.status.busy = true) ∧ (blockAction s).outcome = .next t) ∨
    (s.direct = none ∧ ∃ rest, s.inputs = .proceed :: rest ∧ (blockAction (s.afterInput rest)).outcome = .next t) ∨
    (s.direct = none ∧ ∃ i rest r', s.inputs = i :: rest ∧ t = { s with inputs := r' }) ∨
    (s.direct = none ∧ ∃ reg v rest c, s.inputs = .write reg v :: rest ∧ reg ≤ 4 ∧ s.status.busy = false ∧ t = { s with inputs := rest, cfg := c }) ∨
    (s.direct = none ∧ ∃ v rest, s.inputs = .write 5 v :: rest ∧ s.status.busy = false ∧ s.status.err = false ∧ t = beginWalk { s with inputs := rest }) ∨
    (s.direct = none ∧ ∃ reg rest l, s.inputs = .read reg :: rest ∧ t = { s with inputs := rest, readLog := l }) ∨
    (s.direct = none ∧ ∃ rest, s.inputs = .reset :: rest ∧ t = applyReset { s with inputs := rest }) ∨
    (s.direct = none ∧ ∃ cells rest, s.inputs = .loadImage cells :: rest ∧ s.status.busy = false ∧ t = { s with inputs := rest, image := Memory.ofCells cells }) ∨
    (s.direct = none ∧ ∃ q rest, s.inputs = .decode q :: rest ∧ t = { s with inputs := rest, direct := some q }) ∨
    (s.direct = none ∧ ∃ ready rest, s.inputs = .consumer ready :: rest ∧ t = { s with inputs := rest, consumerReady := ready }) ∨
    (s.direct = none ∧ ∃ ready rest, s.inputs = .memory ready :: rest ∧ t = { s with inputs := rest, memoryReady := ready }) := by
  rw [step_eq_outcome] at h
  by_cases hd0 : s.direct ≠ none
  · obtain ⟨q, hd⟩ := Option.ne_none_iff_exists'.mp hd0
    left
    rw [nextAction_direct hd] at h
    refine ⟨hd0, ?_⟩
    cases q <;> simp only [AttrQuery.encoded, Action.outcome_ap, Action.outcome_texcb, Action.outcome_cache, Action.outcome_xn, exec_decodeAP3, exec_decodeTEXCB5, exec_decodeCACHE2, exec_decodeXN1, Host.Outcome.next.injEq] at h <;> rw [← h]
    · split
      · rw [deliverAccess_direct _ hd]; exact ⟨_, rfl⟩
      · rw [failAccess_direct _ hd]; exact ⟨_, rfl⟩
    · split
      · rw [deliverCacheAttr_direct _ hd]; exact ⟨_, rfl⟩
      · rw [failCacheAttr_direct _ hd]; exact ⟨_, rfl⟩
    · exact ⟨_, rfl⟩
    · rw [deliverExecuteNever_direct _ hd]; exact ⟨_, rfl⟩
  · have hd : s.direct = none := by simpa using hd0
    right
    cases hi : s.inputs with
    | nil => left; rw [nextAction_block hd hi] at h; exact ⟨hd, .inl rfl, h⟩
    | cons i rest =>
      rw [nextAction_input hd hi] at h
      cases i with
      | proceed => right; left; exact ⟨hd, rest, rfl, h⟩
      | hold => right; right; left; simp only [Action.outcome_other, Host.Outcome.next.injEq] at h; exact ⟨hd, _, _, rest, rfl, h.symm⟩
      | poll =>
        simp only at h
        split at h
        · rename_i hb; left; exact ⟨hd, .inr ⟨rest, rfl, hb⟩, h⟩
        · right; right; left; simp only [Action.outcome_other, Host.Outcome.next.injEq] at h; exact ⟨hd, _, _, rest, rfl, h.symm⟩
      | stopOnError => right; right; left; simp only [Action.outcome_other, Host.Outcome.next.injEq] at h; exact ⟨hd, _, _, _, rfl, h.symm⟩
      | read reg =>
        simp only [Action.outcome_other, hostRead] at h
        split at h
        · simp only [Host.Outcome.next.injEq] at h
          right; right; right; right; right; left; exact ⟨hd, _, _, _, rfl, h.symm⟩
        · cases h
      | reset => simp only [Action.outcome_other, Host.Outcome.next.injEq] at h; right; right; right; right; right; right; left; exact ⟨hd, _, rfl, h.symm⟩
      | loadImage cells =>
        simp only [Action.outcome_other, hostLoad] at h
        split at h
        · cases h
        · rename_i hb
          simp only [Host.Outcome.next.injEq] at h
          right; right; right; right; right; right; right; left; exact ⟨hd, _, _, rfl, by simpa [State.afterInput] using hb, h.symm⟩
      | decode q => simp only [Action.outcome_other, Host.Outcome.next.injEq] at h; right; right; right; right; right; right; right; right; left; exact ⟨hd, _, _, rfl, h.symm⟩
      | consumer ready => simp only [Action.outcome_other, Host.Outcome.next.injEq] at h; right; right; right; right; right; right; right; right; right; left; exact ⟨hd, _, _, rfl, h.symm⟩
      | memory ready => simp only [Action.outcome_other, Host.Outcome.next.injEq] at h; right; right; right; right; right; right; right; right; right; right; exact ⟨hd, _, _, rfl, h.symm⟩
      | write reg v =>
        have wc : ∀ c, reg ≤ 4 → Host.Outcome.next (φ := Fault) (ρ := Refusal) (writeConfig c (s.afterInput rest)) = .next t → 
           (∃ i rest_1 r', Input.write reg v :: rest = i :: rest_1 ∧ t = { s with inputs := r' }) ∨ (∃ reg1 v1 rest1 c, Input.write reg v :: rest = .write reg1 v1 :: rest1 ∧ reg1 ≤ 4 ∧ s.status.busy = false ∧ t = { s with inputs := rest1, cfg := c }) := by
          intro c hr h
          simp only [Host.Outcome.next.injEq] at h
          cases hb : s.status.busy
          · rw [writeConfig_free _ (by exact hb)] at h; right; exact ⟨_, _, _, _, rfl, hr, rfl, h.symm⟩
          · rw [writeConfig_locked _ (by exact hb)] at h; left; exact ⟨_, _, _, rfl, h.symm⟩
        have fin : ((∃ i rest_1 r', Input.write reg v :: rest = i :: rest_1 ∧ t = { s with inputs := r' }) ∨ (∃ reg1 v1 rest1 c, Input.write reg v :: rest = .write reg1 v1 :: rest1 ∧ reg1 ≤ 4 ∧ s.status.busy = false ∧ t = { s with inputs := rest1, cfg := c })
            ∨ (∃ v1 rest1, Input.write reg v :: rest = .write 5 v1 :: rest1 ∧ s.status.busy = false ∧ s.status.err = false ∧ t = beginWalk { s with inputs := rest1 })) := by
          simp only [hostWrite] at h
          split at h
          · rcases wc _ (by omega) h with h | h; exact .inl h; exact .inr (.inl h)
          · rcases wc _ (by omega) h with h | h; exact .inl h; exact .inr (.inl h)
          · rcases wc _ (by omega) h with h | h; exact .inl h; exact .inr (.inl h)
          · rcases wc _ (by omega) h with h | h; exact .inl h; exact .inr (.inl h)
          · rcases wc _ (by omega) h with h | h; exact .inl h; exact .inr (.inl h)
          · simp only [Action.outcome, decode, decodeCTRL] at h
            cases hb : v.getLsbD 0
            · simp only [hb] at h; simp at h; exact .inl ⟨_, _, _, rfl, h.symm⟩
            · simp only [hb] at h
              simp only [if_true, exec_start, Host.Outcome.next.injEq] at h
              split at h
              · exact .inl ⟨_, _, _, rfl, h.symm⟩
              · rename_i hn
                simp only [Bool.or_eq_true, not_or, Bool.not_eq_true] at hn
                exact .inr (.inr ⟨_, _, rfl, hn.1, hn.2, h.symm⟩)
          all_goals first | (cases h; done) | skip
          all_goals simp only [Action.outcome_other, Host.Outcome.next.injEq] at h; exact .inl ⟨_, _, _, rfl, h.symm⟩
        rcases fin with h | h | h
        · right; right; left; exact ⟨hd, h⟩
        · right; right; right; left; exact ⟨hd, h⟩
        · right; right; right; right; left; exact ⟨hd, h⟩

/-! ## Granules -/

theorem route_eq_one_iff (va : Wide) : route va = 1 ↔ 0x02000000 ≤ va.toNat := by
  unfold route
  have : va >>> 25 ≠ 0 ↔ 0x02000000 ≤ va.toNat := by
    rw [ne_eq, ← BitVec.toNat_inj]
    simp [Nat.shiftRight_eq_div_pow]
  split_ifs with h
  · simpa using this.mp h
  · simpa using mt this.mpr h

/-- An entry is always for the granule that was resolved. -/
theorem resolve_virtualAddress {win : BigStep.Window} {tbl : BitVec 1} {ttbr va : Word} {e : MappingEntry}
    (h : BigStep.resolve win tbl ttbr va = .entry e) : e.virtualAddress = va := by
  unfold BigStep.resolve at h
  split at h
  · cases h
  · unfold BigStep.resolveL1 at h
    split_ifs at h
    · split at h
      · cases h
      · unfold BigStep.resolveL2 at h
        split_ifs at h <;> cases h <;> rfl
    · cases h; rfl
    · cases h; rfl

end Sys2Proof.Machine
end

