-- ==== Sys2Proof/Tests/Slice0.lean ====
section
/-! SUPPORT. Tests: what WellFormed refuses, words written out from the spec's formats, one step of each kind with the
numbers of spec/95_test_vectors.md, and for every statement with hypotheses a state that meets them. -/

namespace Sys2Proof.Machine.Tests

open Sys2Proof Sys2Proof.Machine

/-! ## Helpers -/

/-- The decoder reads exactly this instruction. -/
def reads (e : Encoded) (i : Instr) : Bool :=
  match decode e with
  | .ok j => j == i
  | .error _ => false

/-- The outcome is a next state with this property. -/
def next (o : Host.Outcome State Fault Refusal) (p : State → Bool) : Bool :=
  match o with
  | .next t => p t
  | .fault _ => false
  | .refused _ => false

/-- The window of spec/95_test_vectors.md part 3. -/
def conf : ConfigRegs := { ttbr0 := 0xE0000000, ttbr1 := 0xE0004000, imgBase := 0xE0000000, imgLen := 0x10000 }

/-- The words of program P1, and a malformed Page Table descriptor as entry 2 (program P4). -/
def rom : Memory :=
  [(4, 0x01), (5, 0x04), (7, 0xE0), (8, 0x09), (9, 0x0C), (11, 0xE0), (0x400, 0x16), (0x401, 0x10), (0x403, 0xE0)]

/-- A walk in progress. -/
def walking (st : WalkState) (tbl : BitVec 1) (va : Wide) : State :=
  { State.reset with
    cfg := conf, snap := conf, image := rom, status := { Status.zero with busy := true }, st := st, tbl := tbl, va := va }

/-- An entry of the sequences V10. -/
def entry (va : Word) (pa : PAddr) : MappingEntry :=
  { virtualAddress := va, physicalAddress := pa, accessPermission := 1, cacheAttrs := 1, executeNever := 0 }

/-- The walker offers an entry. -/
def offering (e : MappingEntry) (c : Accumulator) : State :=
  { walking .emit 1 (e.virtualAddress.setWidth 33) with ent := e, entKind := .entry, cur := c }

/-- The walker offers the end of a pass. -/
def ending (tbl : BitVec 1) (c : Accumulator) : State :=
  { walking .passEnd tbl scanEnd with entTbl := tbl, entKind := .endOfPass, cur := c }

/-- A flush has reached this step. -/
def flushing (f : FlushStep) (c : Accumulator) : State := { ending 0 c with entKind := .none, flush := f }

/-- The host acts. -/
def hosted (i : Input) : State := { State.reset with cfg := conf, inputs := [i] }

/-! ## WellFormed refuses -/

theorem test_wf_pageTable_sbz : (Instr.l1PageTable ⟨0x380002, 0, 15, 1⟩).wf = false := by decide
theorem test_wf_malformedBit2_clear : (Instr.l1PageTableMalformedBit2 ⟨0x380002, 0, 15, 2⟩).wf = false := by decide
theorem test_wf_malformedBit3_bit2 : (Instr.l1PageTableMalformedBit3 ⟨0x380002, 0, 15, 3⟩).wf = false := by decide
theorem test_wf_malformedBit3_clear : (Instr.l1PageTableMalformedBit3 ⟨0x380002, 0, 15, 4⟩).wf = false := by decide
theorem test_wf_malformedBit4_bit3 : (Instr.l1PageTableMalformedBit4 ⟨0x380002, 0, 15, 6⟩).wf = false := by decide
theorem test_wf_malformedBit4_bit2 : (Instr.l1PageTableMalformedBit4 ⟨0x380002, 0, 15, 5⟩).wf = false := by decide
theorem test_wf_malformedBit4_clear : (Instr.l1PageTableMalformedBit4 ⟨0x380002, 0, 15, 0⟩).wf = false := by decide
theorem test_wf_texcbReserved02 : (Instr.texcbReserved02 1).wf = false ∧ (Instr.texcbReserved02 4).wf = false := by decide
theorem test_wf_texcbReserved04 : (Instr.texcbReserved04 3).wf = false ∧ (Instr.texcbReserved04 8).wf = false := by decide
theorem test_wf_texcbReserved08 : (Instr.texcbReserved08 7).wf = false ∧ (Instr.texcbReserved08 16).wf = false := by
  decide

/-! ## Decoding: each word is written out field by field, most significant first, from its format -/

/-- R93, vector V4: bits [31:2] ignored, type 00. -/
theorem test_decode_l1Fault : reads (.l1 (0x3FFFFFFF#30 ++ 0b00#2)) (.l1Fault 0x3FFFFFFF) = true := by decide

/-- R94, vector V4, 0xE00009E1: TABLE_BASE, bit 9, DOMAIN, SBZ, type 01. -/
theorem test_decode_l1PageTable :
    reads (.l1 (0x380002#22 ++ 0#1 ++ 15#4 ++ 0b000#3 ++ 0b01#2)) (.l1PageTable ⟨0x380002, 0, 15, 0⟩) = true ∧
    (0x380002#22 ++ 0#1 ++ 15#4 ++ 0b000#3 ++ 0b01#2 : BitVec 32) = 0xE00009E1 := by decide

/-- R94, R172, vector V4: bit 2 set, alone and with bits 3 and 4. -/
theorem test_decode_malformedBit2 :
    reads (.l1 (0x380001#22 ++ 0#1 ++ 0#4 ++ 0b001#3 ++ 0b01#2)) (.l1PageTableMalformedBit2 ⟨0x380001, 0, 0, 1⟩) = true ∧
    reads (.l1 (0x380001#22 ++ 0#1 ++ 0#4 ++ 0b111#3 ++ 0b01#2)) (.l1PageTableMalformedBit2 ⟨0x380001, 0, 0, 7⟩) = true := by
  decide

/-- R94, R172, vector V4: bit 3 set, bit 2 clear. -/
theorem test_decode_malformedBit3 :
    reads (.l1 (0x380003#22 ++ 0#1 ++ 0#4 ++ 0b010#3 ++ 0b01#2)) (.l1PageTableMalformedBit3 ⟨0x380003, 0, 0, 2⟩) = true ∧
    reads (.l1 (0x380003#22 ++ 1#1 ++ 0#4 ++ 0b110#3 ++ 0b01#2)) (.l1PageTableMalformedBit3 ⟨0x380003, 1, 0, 6⟩) = true := by
  decide

/-- R94, R172, vector V4: bit 4 set, bits 3 and 2 clear. -/
theorem test_decode_malformedBit4 :
    reads (.l1 (0x380001#22 ++ 0#1 ++ 0#4 ++ 0b100#3 ++ 0b01#2)) (.l1PageTableMalformedBit4 ⟨0x380001, 0, 0, 4⟩) = true := by
  decide

/-- R95, 0xC000F41A of program P2: SEC_BASE, bit 19, bit 18, bits 17:16, APX, TEX, AP, bits 9:5, XN, CB, type 10. -/
theorem test_decode_l1Section :
    reads (.l1 (0xC00#12 ++ 0#1 ++ 0#1 ++ 0b00#2 ++ 1#1 ++ 0b111#3 ++ 0b01#2 ++ 0b00000#5 ++ 1#1 ++ 0b10#2 ++ 0b10#2))
      (.l1Section ⟨0xC00, 0, 0, 1, 7, 1, 0, 1, 2⟩) = true := by decide

/-- R96, 0x80A404B2 of vector V5: SSEC_BASE, EXT1, bit 19, bit 18, bits 17:16, APX, TEX, AP, bit 9, EXT2, XN, CB, type. -/
theorem test_decode_l1Supersection :
    reads (.l1 (0x80#8 ++ 0xA#4 ++ 0#1 ++ 1#1 ++ 0b00#2 ++ 0#1 ++ 0b000#3 ++ 0b01#2 ++ 0#1 ++ 0x5#4 ++ 1#1 ++ 0b00#2 ++ 0b10#2))
      (.l1Supersection ⟨0x80, 0xA, 0, 0, 0, 0, 1, 0, 5, 1, 0⟩) = true := by decide

/-- R97, vector V4: type 11. -/
theorem test_decode_l1Reserved : reads (.l1 (0x3FFFFFFF#30 ++ 0b11#2)) (.l1Reserved 0x3FFFFFFF) = true := by decide

/-- R99: type 00. -/
theorem test_decode_l2Fault : reads (.l2 (0x12345678#30 ++ 0b00#2)) (.l2Fault 0x12345678) = true := by decide

/-- R100, 0x1234D219 of program P4: LP_BASE, XN, TEX, bits 11:10, APX, bits 8:6, AP, CB, type 01. -/
theorem test_decode_l2LargePage :
    reads (.l2 (0x1234#16 ++ 1#1 ++ 0b101#3 ++ 0b00#2 ++ 1#1 ++ 0b000#3 ++ 0b01#2 ++ 0b10#2 ++ 0b01#2))
      (.l2LargePage ⟨0x1234, 1, 5, 0, 1, 0, 1, 2⟩) = true := by decide

/-- R101, 0xE0001016 of program P1 and 0x000051FF of P4: SP_BASE, bits 11:10, APX, TEX, AP, CB, bit 1, XN. -/
theorem test_decode_l2SmallPage :
    reads (.l2 (0xE0001#20 ++ 0b00#2 ++ 0#1 ++ 0b000#3 ++ 0b01#2 ++ 0b01#2 ++ 1#1 ++ 0#1))
      (.l2SmallPage ⟨0xE0001, 0, 0, 0, 1, 1, 0⟩) = true ∧
    reads (.l2 (0x00005#20 ++ 0b00#2 ++ 0#1 ++ 0b111#3 ++ 0b11#2 ++ 0b11#2 ++ 1#1 ++ 1#1))
      (.l2SmallPage ⟨0x5, 0, 0, 7, 3, 3, 1⟩) = true := by decide

/-- R105: the eight values. -/
theorem test_decode_ap :
    reads (.ap 0b000) .ap000Reserved ∧ reads (.ap 0b001) .ap001 ∧ reads (.ap 0b010) .ap010Reserved ∧
    reads (.ap 0b011) .ap011 ∧ reads (.ap 0b100) .ap100Reserved ∧ reads (.ap 0b101) .ap101 ∧
    reads (.ap 0b110) .ap110Reserved ∧ reads (.ap 0b111) .ap111Reserved := by decide

/-- R106, R213: both ends of every row. -/
theorem test_decode_texcb :
    reads (.texcb 0b00000) .texcbStronglyOrdered ∧ reads (.texcb 0b00001) .texcbDevice ∧
    reads (.texcb 0b00010) (.texcbReserved02 2) ∧ reads (.texcb 0b00011) (.texcbReserved02 3) ∧
    reads (.texcb 0b00100) (.texcbReserved04 4) ∧ reads (.texcb 0b00111) (.texcbReserved04 7) ∧
    reads (.texcb 0b01000) (.texcbReserved08 8) ∧ reads (.texcb 0b01111) (.texcbReserved08 15) ∧
    reads (.texcb 0b10000) (.texcbCached 0 0) ∧ reads (.texcb 0b11110) (.texcbCached 3 2) := by decide

/-- R107: the four values. -/
theorem test_decode_cache :
    reads (.cache 0b00) .cache00 ∧ reads (.cache 0b01) .cache01 ∧ reads (.cache 0b10) .cache10 ∧
    reads (.cache 0b11) .cache11 := by decide

/-- R108: the two values. -/
theorem test_decode_xn : reads (.xn 0) .xn0 ∧ reads (.xn 1) .xn1 := by decide

/-- R27: bit 0 is START, the other bits are ignored; with bit 0 clear there is no command. -/
theorem test_decode_ctrl :
    reads (.ctrl (0#31 ++ 1#1)) (.start 0) = true ∧ reads (.ctrl (0x7FFFFFFF#31 ++ 1#1)) (.start 0x7FFFFFFF) = true ∧
    decodeCTRL 0xFFFFFFFE matches .error .noCommand := by decide

/-- R62: bytes `16 10 00 E0`, lowest address first, are the word 0xE0001016; a byte too wide and a cut word are
refused by name. -/
theorem test_decodeBytes :
    decodeBytes .L2 [0x16, 0x10, 0x00, 0xE0, 0xAA] matches .ok (.l2SmallPage ⟨0xE0001, 0, 0, 0, 1, 1, 0⟩, [0xAA]) ∧
    decodeBytes .AP3 [8] matches .error (.valueTooWide .AP3) ∧
    decodeBytes .L1 [0, 0, 0] matches .error (.truncated .L1) := by decide

/-- The host's reading of bare table words (log entry 15). -/
theorem test_decodeTableWord :
    decodeTableWord 32 0xC000F41A = some (.l1Section ⟨0xC00, 0, 0, 1, 7, 1, 0, 1, 2⟩) ∧
    decodeTableWord 8 5 = some .ap101 ∧ decodeTableWord 8 0x1E = some (.texcbCached 3 2) ∧
    decodeTableWord 2 2 = some .cache10 ∧ decodeTableWord 1 1 = some .xn1 := by decide

/-- The next step after placing a bare word runs its instruction (log entry 16). -/
theorem test_withFetchWord :
    next (step (State.reset.withFetchWord 32 0xC000F41A)) (fun t => t.st == .emit && t.ent.executeNever == 1) ∧
    next (step (State.reset.withFetchWord 8 5)) (fun t => t.answers.access == .label .privilegedReadOnly) ∧
    next (step (State.reset.withFetchWord 8 0x0F)) (fun t => t.answers.cacheAttr == .reserved 15) := by decide

/-! ## One instruction, one step -/

/-- Vector V4: Fault and Reserved are skipped, at both levels. -/
theorem test_exec_skip :
    next (exec (.l1Fault 1) (walking .l1Decode 0 0)) (fun t => t.st == .advance && t.entKind == .none) ∧
    next (exec (.l1Reserved 1) (walking .l1Decode 0 0)) (fun t => t.st == .advance && t.entKind == .none) ∧
    next (exec (.l2Fault 1) (walking .l2Decode 0 0)) (fun t => t.st == .advance && t.entKind == .none) := by decide

/-- Vector V3: 0xE00009E1 at 0x00021C00 leads to 0xE0000884, domain 15; R36: the address is written in L2_FETCH. -/
theorem test_exec_pageTable :
    next (exec (.l1PageTable ⟨0x380002, 0, 15, 0⟩) { walking .l1Decode 0 0x21C00 with l2a := 7 })
      (fun t => t.st == .l2Fetch && t.l2a == 7 && t.dom == 15) ∧
    next (step { walking .l2Fetch 0 0x21C00 with l1d := 0xE00009E1 }) (fun t => t.l2a == 0xE0000884) := by decide

/-- Program P4: 0xE0000C09 stops the walk with STATUS 0x1C. -/
theorem test_exec_malformed :
    next (exec (decodeL1 0xE0000C09) { walking .l1Decode 0 0x200000 with l1a := 0xE0000008 })
      (fun t => t.status.word == 0x1C && t.errVa == 0x200000 && t.errAddr == 0xE0000008 && t.errData == 0xE0000C09) ∧
    next (exec (decodeL1 0xE0000405) (walking .l1Decode 1 0)) (fun t => t.status.word == 0x5C && t.st == .error) ∧
    next (exec (decodeL1 0xE0000411) (walking .l1Decode 1 0)) (fun t => t.status.word == 0x5C && t.st == .error) := by
  decide

/-- Vector V5, Section row 3. -/
theorem test_exec_section :
    next (exec (decodeL1 0xC000F41A) (walking .l1Decode 1 0xFFF00400))
      (fun t => t.ent == ⟨0xFFF00400, 0xC0000400, 5, 30, 1⟩ && t.entKind == .entry) := by decide

/-- Vector V5, Section row 7: every ignored bit set. -/
theorem test_exec_section_ignored :
    next (exec (decodeL1 0xFFFBFFFE) (walking .l1Decode 1 0x12345400))
      (fun t => t.ent == ⟨0x12345400, 0x00FFF45400, 7, 31, 1⟩) := by decide

/-- Vector V5, Supersection row 2, and row 8 for EXT1 alone (property T4). -/
theorem test_exec_supersection :
    next (exec (decodeL1 0x80A404B2) (walking .l1Decode 1 0x50123400))
      (fun t => t.ent == ⟨0x50123400, 0x5A80123400, 1, 0, 1⟩) ∧
    next (exec (decodeL1 0x00F40002) (walking .l1Decode 0 0)) (fun t => t.ent.physicalAddress == 0x0F00000000) := by decide

/-- Program P4, range 1: 0x1234D219 at 0x00010400. -/
theorem test_exec_largePage :
    next (exec (decodeL2 0x1234D219) (walking .l2Decode 0 0x10400))
      (fun t => t.ent == ⟨0x10400, 0x12340400, 5, 22, 1⟩ && t.st == .emit) := by decide

/-- Program P1: 0xE0001016 at 0x00100C00; program P4: 0x000051FF with execute-never in bit 0. -/
theorem test_exec_smallPage :
    next (exec (decodeL2 0xE0001016) (walking .l2Decode 0 0x100C00)) (fun t => t.ent == ⟨0x100C00, 0xE0001C00, 1, 1, 0⟩) ∧
    next (exec (decodeL2 0x000051FF) (walking .l2Decode 0 0x20000)) (fun t => t.ent == ⟨0x20000, 0x5000, 3, 31, 1⟩) := by
  decide

/-- R210, R211 in a flush: labels go on, reserved values stop with code 4 (STATUS 0x24, as in program P5). -/
theorem test_exec_ap_flush :
    let s := flushing (.ap (.endOfPass 0) .device) { Accumulator.startedBy (entry 0x1000 0x8000) with ap := 7 }
    next (exec .ap001 s) (fun t => t.flush == .xn (.endOfPass 0) .device .privilegedReadWrite) ∧
    next (exec .ap101 s) (fun t => t.flush == .xn (.endOfPass 0) .device .privilegedReadOnly) ∧
    next (exec .ap011 s) (fun t => t.flush == .xn (.endOfPass 0) .device .readWrite) ∧
    next (exec .ap000Reserved s) (fun t => t.status.word == 0x24 && t.errData == 0 && t.errVa == 0x1000) ∧
    next (exec .ap010Reserved s) (fun t => t.status.word == 0x24 && t.errData == 2) ∧
    next (exec .ap100Reserved s) (fun t => t.status.word == 0x24 && t.errData == 4) ∧
    next (exec .ap110Reserved s) (fun t => t.status.word == 0x24 && t.errData == 6) ∧
    next (exec .ap111Reserved s) (fun t => t.status.word == 0x24 && t.errData == 7 && t.ranges == []) := by decide

/-- R212, R213 in a flush; S10: code 5 comes before the access permission is looked at. -/
theorem test_exec_texcb_flush :
    let s := flushing (.texcb (.endOfPass 0)) { Accumulator.startedBy (entry 0x1000 0x8000) with ap := 0, texcb := 2 }
    next (exec .texcbStronglyOrdered s) (fun t => t.flush == .ap (.endOfPass 0) .stronglyOrdered) ∧
    next (exec .texcbDevice s) (fun t => t.flush == .ap (.endOfPass 0) .device) ∧
    next (exec (.texcbCached 3 2) s)
      (fun t => t.flush == .ap (.endOfPass 0) (.cached .writeBackNoWriteAllocate .writeThroughNoWriteAllocate)) ∧
    next (exec (.texcbReserved02 2) s)
      (fun t => t.status.errCode == 5 && t.errVa == 0x1000 && t.errAddr == 0 && t.errData == 2 && t.ranges == []) ∧
    next (exec (.texcbReserved04 7) s) (fun t => t.status.errCode == 5 && t.errData == 7) ∧
    next (exec (.texcbReserved08 15) s) (fun t => t.status.errCode == 5 && t.errData == 15) := by decide

/-- R214: the four policies, invoked directly. -/
theorem test_exec_cache :
    next (exec .cache00 State.reset) (fun t => t.answers.policy == .label .nonCacheable) ∧
    next (exec .cache01 State.reset) (fun t => t.answers.policy == .label .writeBackWriteAllocate) ∧
    next (exec .cache10 State.reset) (fun t => t.answers.policy == .label .writeThroughNoWriteAllocate) ∧
    next (exec .cache11 State.reset) (fun t => t.answers.policy == .label .writeBackNoWriteAllocate) := by decide

/-- R215, in a flush and directly. -/
theorem test_exec_xn :
    let s := flushing (.xn (.endOfPass 0) .device .readWrite) (Accumulator.startedBy (entry 0x1000 0x8000))
    next (exec .xn0 s) (fun t => t.flush == .emit (.endOfPass 0) .device .readWrite false) ∧
    next (exec .xn1 s) (fun t => t.flush == .emit (.endOfPass 0) .device .readWrite true) ∧
    next (exec .xn1 State.reset) (fun t => t.answers.executeNever == .label true) := by decide

/-- Program P9, steps 4 and 6: START is taken, then ignored while BUSY. -/
theorem test_exec_start :
    next (step (hosted (.write 5 0xFFFFFFFF))) (fun t => t.status.word == 1 && t.snap == conf && t.st == .passStart) ∧
    next (exec (.start 0) (walking .route 0 0x400)) (fun t => t == walking .route 0 0x400) := by decide

/-- R40: the second walk begins with the accumulator at its pass-start value, whatever the first left in it. -/
theorem test_pass_start_value :
    next (step { hosted (.write 5 1) with cur := { Accumulator.startedBy (entry 0x1000 0x8000) with valid := false } })
      (fun t => t.cur == Accumulator.zero) ∧
    next (step (ending 0 { Accumulator.startedBy (entry 0x1000 0x8000) with valid := false }))
      (fun t => t.st == .passStart && t.cur == Accumulator.zero) := by decide

/-- The label texts of vector V8, rows 30 and 20. -/
theorem test_texts :
    (CacheLabel.cached (cacheability 3) (cacheability 2)).text =
      "outer:write-back/no-write-allocate inner:write-through/no-write-allocate" ∧
    (CacheLabel.cached (cacheability 1) (cacheability 0)).text =
      "outer:write-back/write-allocate inner:non-cacheable" := by decide

/-! ## The walker and the coalescer -/

/-- Vector V1, both sides of the split. -/
theorem test_route : route 0x01FFFC00 = 0 ∧ route 0x02000000 = 1 ∧ route 0xFFFFFC00 = 1 := by decide

/-- Vector V2, rows 5, 7, 10 and 13. -/
theorem test_l1Addr :
    l1Addr 0 0xE000007F 0x01FFFC00 = 0xE000007C ∧ l1Addr 0 0xFFFFFFFF 0x01FFFC00 = 0xFFFFFFFC ∧
    l1Addr 1 0xE0007FFF 0x50123400 = 0xE0005404 ∧ l1Addr 1 0x00003FFF 0x02000000 = 0x00000080 := by decide

/-- Vector V9. -/
theorem test_inBounds :
    inBounds 0xE0000000 0x10000 0xE000FFFC = true ∧ inBounds 0xE0000000 0x10000 0xE000FFFD = false ∧
    inBounds 0xE0000000 0x10000 0xDFFFFFFC = false ∧ inBounds 0xE0000000 3 0xE0000000 = false ∧
    inBounds 0xE0000000 4 0xE0000000 = true ∧ inBounds 0 0x100000000 0xFFFFFFFC = true ∧
    inBounds 0xFFFF0000 0x20000 0 = false := by decide

/-- Program P1: the word fetched for MiB 1. -/
theorem test_fetch :
    next (step (walking .l1Fetch 0 0x100000)) (fun t => t.l1a == 0xE0000004 && t.l1d == 0xE0000401 && t.st == .l1Decode) ∧
    next (step { walking .l2Fetch 0 0x100000 with l1d := 0xE0000401 })
      (fun t => t.l2a == 0xE0000400 && t.l2d == 0xE0001016 && t.st == .l2Decode) := by decide

/-- Program P6: the second-level table outside the image, STATUS 0x94; program P7: the first level, STATUS 0x54. -/
theorem test_fetch_outside :
    next (step { walking .l2Fetch 0 0x100000 with l1d := 0xE0010001 })
      (fun t => t.status.word == 0x94 && t.errVa == 0x100000 && t.errAddr == 0xE0010000 && t.errData == 0) ∧
    next (step { walking .l1Fetch 1 0x40000000 with snap := { conf with imgLen := 0x5000 } })
      (fun t => t.status.word == 0x54 && t.errVa == 0x40000000 && t.errAddr == 0xE0005000) := by decide

/-- The scan counter does not wrap. -/
theorem test_advance_end :
    next (step (walking .advance 1 0xFFFFFC00)) (fun t => t.va == 0x100000000 && t.st == .passEnd && t.entKind == .endOfPass) := by
  decide

/-- Sequences S2 (extend), S3 (a gap) and S1 (first entry) of V10. -/
theorem test_take :
    next (step (offering (entry 0x100400 0xE0001400) (Accumulator.startedBy (entry 0x100000 0xE0001000))))
      (fun t => t.cur.size == 0x800 && t.st == .advance) ∧
    next (step (offering (entry 0x1800 0x8800) (Accumulator.startedBy (entry 0x1000 0x8000))))
      (fun t => t.flush == .texcb (.entry (entry 0x1800 0x8800)) && t.cur.size == 0x400) ∧
    next (step (offering (entry 0x1000 0x8000) Accumulator.zero)) (fun t => t.cur.off == 0x7000 && t.ranges == []) := by
  decide

/-- Sequence S12: the top of the address space with a negative offset. -/
theorem test_flush_top :
    next (step (flushing (.emit (.endOfPass 0) (.cached .nonCacheable .nonCacheable) .readWrite false)
        (Accumulator.startedBy (entry 0xFFFFFC00 0))))
      (fun t => t.ranges.map (fun r => (r.virtualEnd, r.physicalEnd, r.physicalOffset.toInt)) ==
        [(0x100000000, 0x400, -0xFFFFFC00)] && t.cur.valid == false) := by decide

/-! ## Witnesses: a state and operands that meet the hypotheses of each statement, clause by clause -/

theorem test_witness_DecodeOfEncode :
    (Instr.l1PageTable ⟨0x3FFFFF, 1, 15, 0⟩).wf ∧ (Instr.l1PageTableMalformedBit2 ⟨0, 0, 0, 7⟩).wf ∧
    (Instr.l1PageTableMalformedBit3 ⟨0, 0, 0, 6⟩).wf ∧ (Instr.l1PageTableMalformedBit4 ⟨0, 0, 0, 4⟩).wf ∧
    (Instr.texcbReserved02 3).wf ∧ (Instr.texcbReserved04 4).wf ∧ (Instr.texcbReserved08 15).wf ∧
    (Instr.start 0x7FFFFFFF).wf := by decide

theorem test_witness_EncodeOfDecode : reads (.l1 0xFFFBFFFE) (.l1Section ⟨0xFFF, 1, 3, 1, 7, 3, 31, 1, 3⟩) := by decide

theorem test_witness_DecodeOfBytes : (Instr.l2SmallPage ⟨0xE0001, 3, 0, 0, 1, 1, 0⟩).wf ∧ Instr.ap111Reserved.wf := by decide

theorem test_witness_OneRowPerWord :
    (Encoded.texcb 15).format ≠ .CTRL ∧ reads (.texcb 15) (.texcbReserved08 15) ∧
    (Instr.texcbReserved08 15).row.accepts (.texcb 15) := by decide

theorem test_witness_IgnoredBitsHaveNoEffect :
    ((0xFFFFFFFC : Word).extractLsb' 0 2 = 0 ∧ (0xFFFFFFFC : Word) &&& 0x00000003 = 0) ∧
    ((3 : Word).extractLsb' 0 2 = 3) ∧
    ((0xE0000401 : Word).extractLsb' 0 2 = 1 ∧ (0xE0000401 : Word).extractLsb' 1 4 = 0 ∧
      (0x200 : Word) &&& 0xFFFFFDFF = 0) ∧
    ((0xC000F41A : Word).extractLsb' 0 2 = 2 ∧ (0xC000F41A : Word).getLsbD 18 = false ∧
      (0x000B03E0 : Word) &&& 0xFFF4FC1F = 0) ∧
    ((0x80A404B2 : Word).extractLsb' 0 2 = 2 ∧ (0x80A404B2 : Word).getLsbD 18 = true ∧
      (0x000B0200 : Word) &&& 0xFFF4FDFF = 0) ∧
    ((0x1234D219 : Word).extractLsb' 0 2 = 1 ∧ (0x00000DC0 : Word) &&& 0xFFFFF23F = 0) ∧
    ((0xE0001016 : Word).getLsbD 1 = true ∧ (0x00000C00 : Word) &&& 0xFFFFF3FF = 0) := by decide

theorem test_witness_FaultClassesSkip :
    (0xFFFFFFFC : Word).extractLsb' 0 2 = 0 ∧ (0xFFFFFFFF : Word).extractLsb' 0 2 = 3 := by decide

theorem test_witness_PageTableDescends :
    ((0xFFFFFFE1 : Word).extractLsb' 0 2 = 1 ∧ (0xFFFFFFE1 : Word).extractLsb' 1 4 = 0) ∧
    (let s : State := { walking .l1Decode 0 0x100000 with l1a := 0xE0000004, l1d := 0xE0000401 }
     s.turn .l1Decode ∧ s.l1d = 0xE0000401 ∧ s.memoryReady = true) ∧
    (0xE0000401 : Word).extractLsb' 0 2 = 1 ∧ (0xE0000401 : Word).extractLsb' 1 4 = 0 :=
  ⟨by decide, ⟨⟨⟨rfl, rfl⟩, rfl, rfl⟩, rfl, rfl⟩, by decide⟩

theorem test_witness_MalformedPageTableStops :
    (walking .l1Decode 0 0x200000).st = .l1Decode ∧ (walking .l1Decode 0 0x200000).flush = .idle ∧
    [(0xE0000405 : Word), 0xE000041D, 0xE0000409, 0xE0000419, 0xE0000411].all
      (fun d => d.extractLsb' 0 2 == 1 && d.extractLsb' 1 4 != 0) = true := by decide

theorem test_witness_SectionEntry :
    (0xFFFBFFFE : Word).extractLsb' 0 2 = 2 ∧ (0xFFFBFFFE : Word).getLsbD 18 = false := by decide

theorem test_witness_SupersectionEntry :
    (0x12F401E2 : Word).extractLsb' 0 2 = 2 ∧ (0x12F401E2 : Word).getLsbD 18 = true := by decide

theorem test_witness_LargePageEntry : (0x1234D219 : Word).extractLsb' 0 2 = 1 := by decide

theorem test_witness_SmallPageEntry : (0xE0001016 : Word).getLsbD 1 = true ∧ (0x000051FF : Word).getLsbD 1 = true := by
  decide

theorem test_witness_DescriptorAddressArithmetic : (0x01FFFC00 : Word).toNat < 0x02000000 := by decide

theorem test_witness_InstructionsCompleteWithFrame :
    mappingRow (.l1Fault 0) = false ∧ mappingRow (.l2SmallPage ⟨0, 0, 0, 0, 0, 0, 0⟩) = true ∧
    failingRow .xn1 = false ∧ failingRow .ap000Reserved = true ∧ (∀ r, Instr.xn1 ≠ .start r) ∧
    (∀ f, Instr.start 0 ≠ .l1PageTable f) ∧ (encode (.start 0)).format = .CTRL ∧ (encode (.l1Fault 0)).format = .L1 ∧
    (encode (.l2Fault 0)).format = .L2 ∧ (encode .ap000Reserved).format ≠ .L1 ∧
    (encode .ap000Reserved).format ≠ .L2 ∧ (encode .ap000Reserved).format ≠ .CTRL ∧
    (placeQuery (.ap 0) State.reset).direct ≠ none ∧ State.reset.flush = .idle :=
  ⟨rfl, rfl, rfl, rfl, by simp, by simp, rfl, rfl, rfl, by decide, by decide, by decide, by decide, rfl⟩

theorem test_witness_AccessValuesInFlush :
    (flushing (.ap (.endOfPass 0) .device) Accumulator.zero).direct = none ∧
    (Instr.ap111Reserved, (7 : BitVec 3)) ∈
      [(Instr.ap000Reserved, 0), (.ap010Reserved, 2), (.ap100Reserved, 4), (.ap110Reserved, 6), (.ap111Reserved, 7)] := by
  decide

theorem test_witness_CacheValuesInFlush :
    (flushing (.texcb (.endOfPass 0)) Accumulator.zero).direct = none ∧
    (flushing (.texcb (.endOfPass 0)) Accumulator.zero).flush = .texcb (.endOfPass 0) ∧
    2 ≤ (2 : BitVec 5).toNat ∧ (15 : BitVec 5).toNat ≤ 15 := by decide

theorem test_witness_ExecuteNeverInFlush :
    (flushing (.xn (.endOfPass 0) .device .readWrite) Accumulator.zero).direct = none ∧
    (flushing (.xn (.endOfPass 0) .device .readWrite) Accumulator.zero).flush = .xn (.endOfPass 0) .device .readWrite := by
  decide

theorem test_witness_DirectDecodersAnswer :
    (placeQuery (.ap 7) State.reset).direct = some (.ap 7) ∧ (placeQuery (.texcb 15) State.reset).direct = some (.texcb 15) ∧
    (placeQuery (.cache 3) State.reset).direct = some (.cache 3) ∧ (placeQuery (.xn 1) State.reset).direct = some (.xn 1) := by
  decide

theorem test_witness_LabelsAreUnique :
    BigStep.decodeTexcb 31 = some (.cached .writeBackNoWriteAllocate .writeBackNoWriteAllocate) ∧
    BigStep.decodeTexcb 0 = some .stronglyOrdered ∧ BigStep.decodeAp 1 = some .privilegedReadWrite ∧
    BigStep.decodeAp 3 = some .readWrite := by decide

theorem test_witness_StartCommand :
    (State.reset.status.busy = false ∧ State.reset.status.err = false) ∧ (walking .route 0 0).status.busy = true := by
  decide

theorem test_witness_MemReadRule :
    (0xDFFFFFFC : Word).toNat < (0xE0000000 : Word).toNat ∧
    ((0xE0000000 : Word).toNat ≤ (0xE000FFFD : Word).toNat ∧
      (0x10000 : Wide).toNat < (0xE000FFFD : Word).toNat - (0xE0000000 : Word).toNat + 4) ∧
    ((0xE0000000 : Word).toNat ≤ (0xE000FFFC : Word).toNat ∧
      (0xE000FFFC : Word).toNat - (0xE0000000 : Word).toNat + 4 ≤ (0x10000 : Wide).toNat) := by decide

theorem test_witness_PassStartStep :
    (walking .passStart 0 0).turn .passStart ∧ (walking .passStart 0 0).snap.ttbr0 ≠ 0 ∧
    ({ walking .passStart 1 0 with snap := { conf with ttbr1 := 0 } } : State).turn .passStart :=
  ⟨⟨⟨rfl, rfl⟩, rfl, rfl⟩, by decide, ⟨⟨rfl, rfl⟩, rfl, rfl⟩⟩

theorem test_witness_RouteStep :
    (walking .route 1 0x02000000).turn .route ∧ 0x02000000 ≤ (walking .route 1 0x02000000).va.toNat ∧
    (walking .route 0 0x01FFFC00).turn .route ∧ (walking .route 0 0x01FFFC00).va.toNat < 0x02000000 ∧
    (walking .route 0 0x02000000).turn .route ∧ (walking .route 1 0x01FFFC00).turn .route :=
  ⟨⟨⟨rfl, rfl⟩, rfl, rfl⟩, by decide, ⟨⟨rfl, rfl⟩, rfl, rfl⟩, by decide, ⟨⟨rfl, rfl⟩, rfl, rfl⟩, ⟨⟨rfl, rfl⟩, rfl, rfl⟩⟩

theorem test_witness_FirstLevelFetchStep :
    (walking .l1Fetch 0 0x100000).turn .l1Fetch ∧
    memRead rom conf.imgBase conf.imgLen ((conf.ttbr0 &&& 0xFFFFFF80) ||| ((va32 0x100000 >>> 18) &&& 0x3FFC)) =
      some 0xE0000401 ∧ (walking .l1Fetch 0 0x100000).memoryReady = true ∧
    (walking .l1Fetch 1 0xFFFFFC00).turn .l1Fetch ∧
    memRead rom conf.imgBase 0x5000 ((conf.ttbr1 &&& 0xFFFFC000) ||| ((va32 0xFFFFFC00 >>> 18) &&& 0x3FFC)) = none :=
  ⟨⟨⟨rfl, rfl⟩, rfl, rfl⟩, by decide, rfl, ⟨⟨rfl, rfl⟩, rfl, rfl⟩, by decide⟩

theorem test_witness_SecondLevelFetchStep :
    (walking .l2Fetch 0 0x100000).turn .l2Fetch ∧ (walking .l2Fetch 0 0x100000).memoryReady = true ∧
    memRead rom conf.imgBase conf.imgLen ((0xE0000401 &&& 0xFFFFFC00) ||| ((va32 0x100000 >>> 10) &&& 0x3FC)) =
      some 0xE0001016 ∧
    memRead rom conf.imgBase conf.imgLen ((0xE0010001 &&& 0xFFFFFC00) ||| ((va32 0x100000 >>> 10) &&& 0x3FC)) = none :=
  ⟨⟨⟨rfl, rfl⟩, rfl, rfl⟩, rfl, by decide, by decide⟩

theorem test_witness_AdvanceStep :
    (walking .advance 1 0xFFFFFC00).turn .advance ∧ (walking .advance 1 0xFFFFFC00).va.toNat + 1024 = 0x100000000 ∧
    (walking .advance 1 0xFFFFF800).turn .advance ∧ (walking .advance 1 0xFFFFF800).va.toNat + 1024 ≤ 0x100000000 ∧
    (walking .route 1 0xFFFFF800).quiet ∧ (walking .route 1 0xFFFFF800).st = .route :=
  ⟨⟨⟨rfl, rfl⟩, rfl, rfl⟩, by decide, ⟨⟨rfl, rfl⟩, rfl, rfl⟩, by decide, ⟨rfl, rfl⟩, rfl⟩

theorem test_witness_ItemTakenWithoutFlush :
    (let s : State := { offering (entry 0x2000000 0) Accumulator.zero with coalescer := false }
     s.turn .emit ∧ s.entKind = .entry ∧ s.coalescer = false ∧ s.consumerReady = true) ∧
    ((ending 0 Accumulator.zero).turn .passEnd ∧ (ending 0 Accumulator.zero).cur.valid = false ∧
      (ending 0 Accumulator.zero).coalescer = true ∧ (ending 0 Accumulator.zero).tbl = 0) ∧
    ((ending 1 Accumulator.zero).turn .passEnd ∧ (ending 1 Accumulator.zero).entKind = .endOfPass ∧
      (ending 1 Accumulator.zero).consumerReady = true ∧ (ending 1 Accumulator.zero).tbl = 1) :=
  ⟨⟨⟨⟨rfl, rfl⟩, rfl, rfl⟩, rfl, rfl, rfl⟩, ⟨⟨⟨rfl, rfl⟩, rfl, rfl⟩, rfl, rfl, rfl⟩,
   ⟨⟨⟨rfl, rfl⟩, rfl, rfl⟩, rfl, rfl, rfl⟩⟩

/-- The four clauses: the end of a pass with a range open; S2 extends, S4 differs in the offset only, and there is no
range yet. -/
theorem test_witness_ItemTakenByCoalescer :
    (let s := ending 0 (Accumulator.startedBy (entry 0x1000 0x8000))
     s.turn .passEnd ∧ s.entKind = .endOfPass ∧ s.coalescer = true ∧ s.cur.valid = true) ∧
    (let s := offering (entry 0x1400 0x8400) (Accumulator.startedBy (entry 0x1000 0x8000))
     s.turn .emit ∧ s.entKind = .entry ∧ s.coalescer = true ∧ s.cur.valid = true ∧
      (s.ent.physicalAddress.toNat : Int) - (s.ent.virtualAddress.toNat : Int) = s.cur.off.toInt ∧
      s.ent.accessPermission = s.cur.ap ∧ s.ent.executeNever = s.cur.xn ∧ s.ent.cacheAttrs = s.cur.texcb ∧
      s.ent.virtualAddress.toNat = s.cur.vstart.toNat + s.cur.size.toNat) ∧
    (let s := offering (entry 0x1400 0x9400) (Accumulator.startedBy (entry 0x1000 0x8000))
     s.turn .emit ∧ s.cur.valid = true ∧
      (s.ent.physicalAddress.toNat : Int) - (s.ent.virtualAddress.toNat : Int) ≠ s.cur.off.toInt) ∧
    (let s := offering (entry 0x1000 0x8000) Accumulator.zero
     s.turn .emit ∧ s.cur.valid = false) :=
  ⟨⟨⟨⟨rfl, rfl⟩, rfl, rfl⟩, rfl, rfl, rfl⟩, ⟨⟨⟨rfl, rfl⟩, rfl, rfl⟩, rfl, rfl, rfl, by decide⟩, ⟨⟨⟨rfl, rfl⟩, rfl, rfl⟩, rfl, by decide⟩,
   ⟨⟨⟨rfl, rfl⟩, rfl, rfl⟩, rfl⟩⟩

theorem test_witness_FlushEmitsRange :
    (let s := flushing (.texcb (.endOfPass 0)) (Accumulator.startedBy (entry 0x1000 0x8000))
     s.quiet ∧ s.consumerReady = true ∧ s.flush = .texcb (.endOfPass 0) ∧ BigStep.decodeTexcb s.cur.texcb = some .device ∧
      BigStep.decodeAp s.cur.ap = some .privilegedReadWrite ∧ s.tbl = 0) ∧
    (let s : State := { flushing (.texcb (.entry (entry 0x2000 0x9000))) (Accumulator.startedBy (entry 0x1000 0x8000)) with
        st := .emit, va := 0x2000, tbl := 1 }
     s.quiet ∧ s.flush = .texcb (.entry (entry 0x2000 0x9000)) ∧ s.tbl = 1) :=
  ⟨⟨⟨rfl, rfl⟩, rfl, rfl, rfl, rfl, rfl⟩, ⟨⟨rfl, rfl⟩, rfl, rfl⟩⟩

theorem test_witness_MergedRangeArithmetic : (0x100000000 : Wide).toNat ≤ 0x100000000 := by decide

/-- Sequence S3: two raw ranges, neither mergeable with the other. -/
theorem test_witness_RangesAreMaximal :
    BigStep.rawRanges [entry 0x1000 0x8000, entry 0x1800 0x8800] =
      [Accumulator.startedBy (entry 0x1000 0x8000), Accumulator.startedBy (entry 0x1800 0x8800)] := by decide

/-- Sequence S1: every range of the entry list decodes. -/
theorem test_witness_CoalescerEmitsRawRanges :
    ∀ c ∈ BigStep.rawRanges [entry 0x1000 0x8000],
      BigStep.flushRange c matches .ok ⟨0x1000, 0x1400, 0x8000, 0x8400, 0x7000, .device, .privilegedReadWrite, false⟩ := by
  decide

theorem test_witness_WalkEqualsBigStep :
    (hosted (.write 5 1)).hostActs (.write 5 1) [] ∧ (1 : Word).getLsbD 0 = true ∧ (hosted (.write 5 1)).startable ∧
    (hosted (.write 5 1)).consumerReady = true ∧ (hosted (.write 5 1)).memoryReady = true :=
  ⟨⟨rfl, rfl⟩, by decide, ⟨rfl, rfl, rfl⟩, rfl, rfl⟩

theorem test_witness_UnroutedGranulesDoNotMatter : conf.ttbr0 ≠ 0 ∧ conf.ttbr1 ≠ 0 := by decide

/-! Consistent states: a walk at ADVANCE with a range, a walk about to fail in each of the five ways, a failed walk. -/

def midWalk : State := { walking .advance 0 0x100000 with cur := Accumulator.startedBy (entry 0x100000 0xE0001000) }

theorem test_midWalk_consistent : Consistent midWalk := by
  constructor <;> simp [midWalk, walking, State.reset, Status.zero, FlushOk, RangeOk, Accumulator.startedBy, entry] <;> decide

def outsideL1 : State :=
  { walking .l1Fetch 0 0 with cfg := { conf with imgLen := 0 }, snap := { conf with imgLen := 0 } }

theorem test_outsideL1_consistent : Consistent outsideL1 := by
  constructor <;> simp [outsideL1, walking, State.reset, Status.zero, FlushOk, Accumulator.zero] <;> decide

def outsideL2 : State :=
  { walking .l2Fetch 0 0x100000 with image := [(4, 0x01), (6, 0x01), (7, 0xE0)], l1a := 0xE0000004, l1d := 0xE0010001 }

theorem test_outsideL2_consistent : Consistent outsideL2 := by
  constructor <;> simp [outsideL2, walking, State.reset, Status.zero, FlushOk, Accumulator.zero] <;> decide

def atMalformed : State := { walking .l1Decode 0 0x200000 with l1a := 0xE0000008, l1d := 0xE0000C09 }

theorem test_atMalformed_consistent : Consistent atMalformed := by
  constructor <;> simp [atMalformed, walking, State.reset, Status.zero, FlushOk, Accumulator.zero] <;> decide

def reservedCache : State :=
  flushing (.texcb (.endOfPass 0)) { Accumulator.startedBy (entry 0x1000 0x8000) with ap := 0, texcb := 2 }

theorem test_reservedCache_consistent : Consistent reservedCache := by
  constructor <;> simp [reservedCache, flushing, ending, walking, State.reset, Status.zero, FlushOk, WaitsOn, RangeOk,
    Accumulator.startedBy, entry] <;> decide

def reservedAccess : State :=
  flushing (.ap (.endOfPass 0) .device) { Accumulator.startedBy (entry 0x1000 0x8000) with ap := 7 }

theorem test_reservedAccess_consistent : Consistent reservedAccess := by
  constructor <;> simp [reservedAccess, flushing, ending, walking, State.reset, Status.zero, FlushOk, WaitsOn, RangeOk,
    Accumulator.startedBy, entry] <;> decide

def failedWalk (inputs : List Input) : State :=
  { walking .error 0 0x200000 with
    status := Status.zero.failed 3 0 0, errVa := 0x200000, errAddr := 0xE0000008, errData := 0xE0000C09, inputs := inputs }

theorem test_failedWalk_consistent : Consistent (failedWalk []) := by
  constructor <;> simp [failedWalk, walking, State.reset, Status.zero, Status.failed, FlushOk, Accumulator.zero] <;> decide

theorem test_failedWalk_reset_consistent : Consistent (failedWalk [.reset]) := by
  constructor <;> simp [failedWalk, walking, State.reset, Status.zero, Status.failed, FlushOk, Accumulator.zero] <;> decide

/-- Each of the five causes is met by a consistent state without an error whose step sets ERR. -/
theorem test_witness_ErrorsHaveTheirCause :
    ∀ s ∈ [outsideL1, outsideL2, atMalformed, reservedCache, reservedAccess],
      s.status.err = false ∧ next (step s) (fun t => t.status.err) := by decide

theorem test_witness_ErrorOnlyLeftByReset :
    (failedWalk []).status.err = true ∧ next (step (failedWalk [])) (fun t => t.status.err) ∧
    (failedWalk [.reset]).hostActs .reset [] ∧ next (step (failedWalk [.reset])) (fun t => !t.status.err) :=
  ⟨by decide, by decide, ⟨rfl, rfl⟩, by decide⟩

theorem test_witness_StatusWords : (failedWalk []).status.word = 0x1C ∧ midWalk.status.word = 1 := by decide

theorem test_witness_ConsistencyIsKept : next (step midWalk) (fun t => t.st == .route) := by decide

theorem test_witness_RangeBounds : midWalk.cur.valid = true ∧ midWalk.tbl = 0 := by decide

theorem test_witness_ResetValues : (failedWalk [.reset]).hostActs .reset [] := ⟨rfl, rfl⟩

theorem test_witness_ConfigurationLockedWhileBusy :
    (let s : State := { walking .route 0 0 with inputs := [.write 4 1] }
     s.hostActs (.write 4 1) [] ∧ s.status.busy = true) := ⟨⟨rfl, rfl⟩, rfl⟩

/-- The register numbers where the clauses meet: 4 and 5, 6 and 9; a command word and one that is none. -/
theorem test_witness_HostRegisterAccess :
    (hosted (.write 4 3)).hostActs (.write 4 3) [] ∧ (hosted (.write 4 3)).status.busy = false ∧
    (hosted (.write 6 3)).hostActs (.write 6 3) [] ∧ (hosted (.write 9 3)).hostActs (.write 9 3) [] ∧
    (hosted (.write 5 2)).hostActs (.write 5 2) [] ∧ (2 : Word).getLsbD 0 = false ∧
    (hosted (.write 5 3)).hostActs (.write 5 3) [] ∧ (3 : Word).getLsbD 0 = true ∧
    (hosted (.read 9)).hostActs (.read 9) [] :=
  ⟨⟨rfl, rfl⟩, rfl, ⟨rfl, rfl⟩, ⟨rfl, rfl⟩, ⟨rfl, rfl⟩, by decide, ⟨rfl, rfl⟩, by decide, ⟨rfl, rfl⟩⟩

theorem test_witness_MeaninglessHostActionsRefused :
    (hosted (.write 10 0)).hostActs (.write 10 0) [] ∧ (hosted (.read 10)).hostActs (.read 10) [] ∧
    (let s : State := { walking .route 0 0 with inputs := [.loadImage []] }
     s.hostActs (.loadImage []) [] ∧ s.status.busy = true) := ⟨⟨rfl, rfl⟩, ⟨rfl, rfl⟩, ⟨rfl, rfl⟩, rfl⟩

/-- Two cells for one index: the later one wins. -/
theorem test_witness_LoadedImageReadsBack :
    (hosted (.loadImage [(3, 7), (3, 8)])).hostActs (.loadImage [(3, 7), (3, 8)]) [] ∧
    (hosted (.loadImage [(3, 7), (3, 8)])).status.busy = false ∧
    next (step (hosted (.loadImage [(3, 7), (3, 8)]))) (fun t => t.image.byte 3 == 8 && t.image.byte 4 == 0) :=
  ⟨⟨rfl, rfl⟩, rfl, by decide⟩

/-! Three walks that wait for a party outside. -/

def heldItem (inputs : List Input) : State :=
  { ending 0 Accumulator.zero with coalescer := false, consumerReady := false, inputs := inputs }

def heldRange : State :=
  { flushing (.emit (.endOfPass 0) .device .readWrite false) (Accumulator.startedBy (entry 0x1000 0x8000)) with
    consumerReady := false }

def heldFetch : State := { walking .l1Fetch 0 0x100000 with memoryReady := false }

theorem test_witness_StallHolds :
    ((heldItem []).quiet ∧ (heldItem []).stalled) ∧ (heldRange.quiet ∧ heldRange.stalled) ∧
    (heldFetch.quiet ∧ heldFetch.stalled) ∧ heldFetch.status.busy = true ∧
    (heldItem [.consumer true]).hostActs (.consumer true) [] ∧
    next (step (heldItem [.read 6])) (fun t => t.entKind == .endOfPass && t.readLog == [1]) :=
  ⟨⟨⟨rfl, rfl⟩, .inl ⟨rfl, rfl, rfl, .inr rfl, by decide⟩⟩, ⟨⟨rfl, rfl⟩, .inr (.inl ⟨rfl, _, _, _, _, rfl⟩)⟩,
   ⟨⟨rfl, rfl⟩, .inr (.inr ⟨rfl, rfl, .inl rfl⟩)⟩, rfl, ⟨rfl, rfl⟩, by decide⟩

/-- R303: the walk goes on when the consumer takes again. -/
theorem test_stall_lifted :
    next (step (heldItem [.proceed])) (fun t => t == heldItem []) ∧
    next (step { heldItem [] with consumerReady := true }) (fun t => t.items == [.endOfPass 0] && t.st == .passStart) ∧
    next (step { heldFetch with memoryReady := true }) (fun t => t.st == .l1Decode) := by decide

theorem test_witness_StepRunsDecodedInstruction :
    nextAction atMalformed = .run (.l1 0xE0000C09) atMalformed ∧
    reads (.l1 0xE0000C09) (.l1PageTableMalformedBit3 ⟨0x380003, 0, 0, 2⟩) := ⟨rfl, by decide⟩

theorem test_witness_StepTakesTheRightWord :
    atMalformed.turn .l1Decode ∧ (walking .l2Decode 0 0).turn .l2Decode ∧ reservedCache.quiet ∧
    reservedCache.flush = .texcb (.endOfPass 0) ∧ reservedAccess.quiet ∧ reservedAccess.flush = .ap (.endOfPass 0) .device ∧
    (flushing (.xn (.endOfPass 0) .device .readWrite) Accumulator.zero).quiet ∧
    (placeQuery (.cache 2) State.reset).direct = some (.cache 2) ∧ reads (AttrQuery.cache 2).encoded .cache10 ∧
    (hosted (.write 5 3)).hostActs (.write 5 3) [] ∧ reads (.ctrl 3) (.start 1) :=
  ⟨⟨⟨rfl, rfl⟩, rfl, rfl⟩, ⟨⟨rfl, rfl⟩, rfl, rfl⟩, ⟨rfl, rfl⟩, rfl, ⟨rfl, rfl⟩, rfl, ⟨rfl, rfl⟩, rfl, by decide, ⟨rfl, rfl⟩,
   by decide⟩

theorem test_witness_TimeDoesNotMatter :
    (let s : State := { midWalk with inputs := [.hold, .proceed] }
     s.hostActs .hold [.proceed]) ∧
    (let s : State := { midWalk with inputs := [.proceed] }
     s.hostActs .proceed [] ∧ next (step s) (fun t => t.st == .route)) := ⟨⟨rfl, rfl⟩, ⟨rfl, rfl⟩, by decide⟩

theorem test_witness_OnlyTheHostChangesInputs :
    next (step (hosted (.loadImage [(3, 7)]))) (fun t => t.image == [(3, 7)]) ∧
    next (step (hosted (.write 0 7))) (fun t => t.cfg.ttbr0 == 7) ∧
    next (step (hosted .reset)) (fun t => t.cfg == ConfigRegs.zero) := by decide

theorem test_witness_DeliveredStaysDelivered :
    next (step (offering (entry 0x2000000 0) Accumulator.zero)) (fun t => t.items == [.entry (entry 0x2000000 0)]) := by decide

/-- The image keeps its canonical form: writing zero removes the cell. -/
theorem test_memory_canonical :
    Memory.place rom 4 0 = rom.tail ∧ (Memory.place rom 6 9).wf = true ∧ Memory.byte rom 6 = 0 := by decide

end Sys2Proof.Machine.Tests
end

section
/-! SUPPORT and PROOFS. The state of the block (spec/10_state.md): reset, STATUS, the host's registers, what an
instruction leaves alone, and the invariant that every step keeps. -/

namespace Sys2Proof.Machine

/-! ## Reset -/

theorem hasResetValues_applyReset (s : State) : (applyReset s).hasResetValues := by
  simp [State.hasResetValues, State.reset, ConfigRegs.zero, Status.zero, Status.word, MappingEntry.zero]

theorem hasResetValues_reset : State.reset.hasResetValues := hasResetValues_applyReset State.reset

theorem step_reset {s : State} {rest : List Input} (h : s.hostActs .reset rest) :
    step s = .next (applyReset (s.afterInput rest)) := by
  rw [step_eq_outcome, nextAction_input h.1 h.2, Action.outcome_other]

/-- Settles O43: reset writes every register, and leaves the image and what was delivered. -/
theorem resetValues : Obligations.ResetValues :=
  ⟨hasResetValues_reset, fun _ _ h => ⟨_, step_reset h, hasResetValues_applyReset _, rfl, rfl, rfl⟩⟩

/-- Settles O44, by running the five moves: both roots are absent, so nothing is fetched. -/
theorem emptyWalkAfterReset : Obligations.EmptyWalkAfterReset := ⟨_, rfl, rfl, rfl, rfl, rfl⟩

/-! ## Host registers -/

theorem step_read {s : State} {reg : Nat} {rest : List Input} (h : s.hostActs (.read reg) rest) :
    step s = hostRead reg (s.afterInput rest) := by
  rw [step_eq_outcome, nextAction_input h.1 h.2, Action.outcome_other]

theorem step_write {s : State} {reg : Nat} {v : Word} {rest : List Input} (h : s.hostActs (.write reg v) rest) :
    step s = (hostWrite reg v (s.afterInput rest)).outcome := by
  rw [step_eq_outcome, nextAction_input h.1 h.2]

@[simp] theorem setWidth_withLenLow (len : Wide) (v : Word) : (withLenLow len v).setWidth 32 = v := by
  apply BitVec.eq_of_getLsbD_eq
  intro i hi
  simp [withLenLow, hi]

@[simp] theorem high_withLenLow (len : Wide) (v : Word) : (withLenLow len v).extractLsb' 32 1 = len.extractLsb' 32 1 := by
  apply BitVec.eq_of_getLsbD_eq
  intro i hi
  obtain rfl : i = 0 := by omega
  simp [withLenLow]

@[simp] theorem setWidth_withLenHigh (len : Wide) (v : Word) : (withLenHigh len v).setWidth 32 = len.setWidth 32 := by
  apply BitVec.eq_of_getLsbD_eq
  intro i hi
  simp [withLenHigh, hi]

@[simp] theorem high_withLenHigh (len : Wide) (v : Word) :
    ((withLenHigh len v).extractLsb' 32 1).setWidth 32 = v &&& 1 := by
  apply BitVec.eq_of_getLsbD_eq
  intro i hi
  interval_cases i <;> simp [withLenHigh]

theorem readReg_isSome (s : State) {reg : Nat} (h : reg ≤ 9) : ∃ w, readReg s reg = some w := by
  interval_cases reg <;> exact ⟨_, rfl⟩

/-- The configuration after a write to one of its five registers (R22 to R26). -/
def ConfigRegs.written (c : ConfigRegs) (reg : Nat) (v : Word) : ConfigRegs :=
  match reg with
  | 0 => { c with ttbr0 := v }
  | 1 => { c with ttbr1 := v }
  | 2 => { c with imgBase := v }
  | 3 => { c with imgLen := withLenLow c.imgLen v }
  | _ => { c with imgLen := withLenHigh c.imgLen v }

theorem hostWrite_config (s : State) {reg : Nat} (v : Word) (h : reg ≤ 4) :
    hostWrite reg v s = .other (.next (writeConfig (s.cfg.written reg v) s)) := by
  interval_cases reg <;> rfl

theorem hostWrite_readOnly (s : State) {reg : Nat} (v : Word) (h6 : 6 ≤ reg) (h9 : reg ≤ 9) :
    hostWrite reg v s = .other (.next s) := by
  interval_cases reg <;> rfl

/-- A CTRL write with bit 0 clear gives no command (R27). -/
theorem hostWrite_ctrl_none (s : State) {v : Word} (h : v.getLsbD 0 = false) : (hostWrite 5 v s).outcome = .next s := by
  simp only [hostWrite, Action.outcome, decode, decodeCTRL, h, Bool.false_eq_true, if_false]

/-- A CTRL write with bit 0 set is START (R27). -/
theorem hostWrite_ctrl_start (s : State) {v : Word} (h : v.getLsbD 0 = true) :
    (hostWrite 5 v s).outcome = exec (.start (v.extractLsb' 1 31)) s := by
  simp only [hostWrite, Action.outcome, decode, decodeCTRL, h, if_true]

theorem readReg_written_same (s : State) (rest : List Input) {reg : Nat} (v : Word) (h : reg ≤ 4) :
    readReg { s with cfg := s.cfg.written reg v, inputs := rest } reg = some (if reg = 4 then v &&& 1 else v) := by
  interval_cases reg <;> simp [readReg, ConfigRegs.written]

theorem readReg_written_other (s : State) (rest : List Input) {reg r : Nat} (v : Word) (h : reg ≤ 4) (hr : r ≠ reg) :
    readReg { s with cfg := s.cfg.written reg v, inputs := rest } r = readReg s r := by
  unfold readReg
  interval_cases reg <;> split <;> simp_all [ConfigRegs.written]

/-- Settles O46, a clause per kind of access: configuration, read-only, no command, START, read. -/
theorem hostRegisterAccess : Obligations.HostRegisterAccess := by
  intro s reg v rest
  refine ⟨fun h hr hb => ?_, fun h h6 h9 => ?_, fun h hv => ?_, fun h hv => ?_, fun h hr => ?_⟩
  · refine ⟨s.cfg.written reg v, ?_, readReg_written_same s rest v hr, fun r => readReg_written_other s rest v hr⟩
    rw [step_write h, hostWrite_config _ v hr, writeConfig_free _ (by simpa using hb)]
    rfl
  · rw [step_write h, hostWrite_readOnly _ v h6 h9]; rfl
  · rw [step_write h, hostWrite_ctrl_none _ hv]; rfl
  · rw [step_write h, hostWrite_ctrl_start _ hv]; rfl
  · obtain ⟨w, hw⟩ := readReg_isSome s hr
    have hw' : readReg (s.afterInput rest) reg = some w := hw
    exact ⟨w, hw, by rw [step_read h, hostRead, hw']; rfl⟩

/-! ## STATUS as a word -/

theorem Status.word_toNat (f : Status) : f.word.toNat =
    f.busy.toNat + 2 * f.done.toNat + 4 * f.err.toNat + 8 * f.errCode.toNat + 64 * f.errTbl.toNat
      + 128 * f.errLvl.toNat := by
  obtain ⟨busy, done, err, code, tbl, lvl⟩ := f
  revert busy done err code tbl lvl
  decide

theorem Consistent.status_running {s : State} (h : Consistent s) (hs : s.st.running = true) :
    s.status.busy = true ∧ s.status.err = false ∧ s.status.done = false := by
  refine ⟨h.busy_iff.trans hs, ?_, ?_⟩
  · rw [← Bool.not_eq_true, h.err_iff]
    intro he
    simp [he, WalkState.running] at hs
  · rw [← Bool.not_eq_true, h.done_iff]
    intro he
    simp [he, WalkState.running] at hs

theorem Consistent.status_error {s : State} (h : Consistent s) (hs : s.status.err = true) :
    s.status.busy = false ∧ s.status.done = false := by
  have he := h.err_iff.mp hs
  refine ⟨by simp [h.busy_iff, he, WalkState.running], ?_⟩
  rw [← Bool.not_eq_true, h.done_iff, he]
  decide

theorem Consistent.status_cases {s : State} (h : Consistent s) :
    s.status = Status.zero ∨ s.status = Status.zero.started ∨ s.status = Status.zero.finished ∨
    ∃ code tbl lvl, s.status = Status.zero.failed code tbl lvl ∧ 2 ≤ code.toNat ∧ code.toNat ≤ 5 ∧ (lvl = 1 → code = 2) := by
  have hrun : s.status.busy = true → s.status.err = false ∧ s.status.done = false := fun hb =>
    (h.status_running (h.busy_iff ▸ hb)).2
  have hfail := h.status_error
  have hcode := h.err_code
  have hlvl := h.err_lvl
  have hzero := h.no_err
  generalize s.status = f at *
  obtain ⟨busy, done, err, code, tbl, lvl⟩ := f
  cases err with
  | true =>
    obtain ⟨rfl, rfl⟩ := hfail rfl
    have hbounds : 2 ≤ code.toNat ∧ code.toNat ≤ 5 := by
      rcases hcode rfl with rfl | rfl | rfl | rfl <;> decide
    exact .inr (.inr (.inr ⟨code, tbl, lvl, rfl, hbounds.1, hbounds.2, hlvl⟩))
  | false =>
    obtain ⟨rfl, rfl, rfl, -⟩ := hzero rfl
    cases busy with
    | true =>
      obtain ⟨-, rfl⟩ := hrun rfl
      exact .inr (.inl rfl)
    | false => cases done with
      | true => exact .inr (.inr (.inl rfl))
      | false => exact .inl rfl

/-- Settles O49: a consistent state has one of four kinds of STATUS. -/
theorem statusWords : Obligations.StatusWords := by
  intro s h
  refine ⟨rfl, ?_⟩
  rcases h.status_cases with hs | hs | hs | ⟨code, tbl, lvl, hs, h2, h5, hlvl⟩
  · rw [hs]; exact ⟨.inl rfl, by decide⟩
  · rw [hs]; exact ⟨.inr (.inl rfl), by decide⟩
  · rw [hs]; exact ⟨.inr (.inr (.inl rfl)), by decide⟩
  · have hw : s.status.word.toNat = 4 + 8 * code.toNat + 64 * tbl.toNat + 128 * lvl.toNat := by
      rw [hs, Status.word_toNat]
      simp [Status.zero, Status.failed]
    have hne : ∀ w : Word, w.toNat ≤ 2 → s.status.word ≠ w := by rintro w hle rfl; omega
    refine ⟨.inr (.inr (.inr ⟨code.toNat, tbl.toNat, lvl.toNat, h2, h5, by omega, by omega, fun hl => ?_, hw⟩)), ?_, ?_⟩
    · rw [hlvl (BitVec.eq_of_toNat_eq hl)]; rfl
    · exact iff_of_false (by simp [hs, Status.zero]) (hne 1 (by decide))
    · exact iff_of_false (by simp [hs, Status.zero]) (hne 2 (by decide))

/-! ## What an instruction can do -/

/-- A decoder that found a label has answered a direct invocation, or has moved the flush that waited for it on. -/
def Labelled (s t : State) : Prop :=
  (∃ a, t = { s with direct := none, answers := a }) ∨
    (s.direct = none ∧ s.flush ≠ .idle ∧ ∃ f, t = { s with flush := f })

/-- A decoder that met a reserved value has answered a direct invocation, or has failed the flush that waited for it. -/
def Refused (s t : State) : Prop :=
  (∃ a, t = { s with direct := none, answers := a }) ∨ (s.direct = none ∧ s.flush ≠ .idle ∧ ∃ e, t = raise e s)

theorem labelled_deliverAccess (p : AccessLabel) (s : State) : Labelled s (deliverAccess p s) := by
  unfold deliverAccess
  split
  next item c hd hf => exact .inr ⟨hd, by simp [hf], _, rfl⟩
  next => exact .inl ⟨_, rfl⟩

theorem labelled_deliverCacheAttr (c : CacheLabel) (s : State) : Labelled s (deliverCacheAttr c s) := by
  unfold deliverCacheAttr
  split
  next item hd hf => exact .inr ⟨hd, by simp [hf], _, rfl⟩
  next => exact .inl ⟨_, rfl⟩

theorem labelled_deliverExecuteNever (x : Bool) (s : State) : Labelled s (deliverExecuteNever x s) := by
  unfold deliverExecuteNever
  split
  next item c p hd hf => exact .inr ⟨hd, by simp [hf], _, rfl⟩
  next => exact .inl ⟨_, rfl⟩

theorem labelled_deliverPolicy (p : Policy) (s : State) : Labelled s (deliverPolicy p s) := .inl ⟨_, rfl⟩

theorem refused_failAccess (v : BitVec 3) (s : State) : Refused s (failAccess v s) := by
  unfold failAccess
  split
  next item c hd hf => exact .inr ⟨hd, by simp [hf], _, rfl⟩
  next => exact .inl ⟨_, rfl⟩

theorem refused_failCacheAttr (t : BitVec 5) (s : State) : Refused s (failCacheAttr t s) := by
  unfold failCacheAttr
  split
  next item hd hf => exact .inr ⟨hd, by simp [hf], _, rfl⟩
  next => exact .inl ⟨_, rfl⟩

/-- The instruction is a value that a decoder works on (R90): no descriptor and no command. -/
def IsDecoderValue (i : Instr) : Prop :=
  (encode i).format ≠ .L1 ∧ (encode i).format ≠ .L2 ∧ (encode i).format ≠ .CTRL

/-- Everything an instruction can do in a state: one case per kind of row. -/
inductive ExecEffect (s : State) : Instr → State → Prop
  | skip {i : Instr} (hf : (encode i).format = .L1 ∨ (encode i).format = .L2) (hm : mappingRow i = false)
      (hr : failingRow i = false) : ExecEffect s i (skipGranule s)
  | descend (f : PageTableFields) : ExecEffect s (.l1PageTable f) { s with dom := f.domain, st := .l2Fetch }
  | malformed {i : Instr} (d : Word) (hf : (encode i).format = .L1) (hr : failingRow i = true) :
      ExecEffect s i (raiseMalformed d s)
  | map {i : Instr} (e : MappingEntry) (hf : (encode i).format = .L1 ∨ (encode i).format = .L2)
      (hm : mappingRow i = true) (hr : failingRow i = false) : ExecEffect s i (emitEntry e s)
  | label {i : Instr} {t : State} (hf : IsDecoderValue i) (hr : failingRow i = false)
      (ht : Labelled s t) : ExecEffect s i t
  | refuse {i : Instr} {t : State} (hf : IsDecoderValue i) (hr : failingRow i = true)
      (ht : Refused s t) : ExecEffect s i t
  | ignoredStart (r : BitVec 31) : ExecEffect s (.start r) s
  | begin (r : BitVec 31) : ExecEffect s (.start r) (beginWalk s)

theorem execEffect_start (r : BitVec 31) (s : State) :
    ExecEffect s (.start r) (if s.status.busy || s.status.err then s else beginWalk s) := by
  split
  · exact .ignoredStart r
  · exact .begin r

theorem exec_effect (i : Instr) (s : State) : ∃ t, exec i s = .next t ∧ ExecEffect s i t := by
  cases i with
  | l1Fault => exact ⟨_, rfl, .skip (.inl rfl) rfl rfl⟩
  | l1Reserved => exact ⟨_, rfl, .skip (.inl rfl) rfl rfl⟩
  | l2Fault => exact ⟨_, rfl, .skip (.inr rfl) rfl rfl⟩
  | l1PageTable f => exact ⟨_, rfl, .descend f⟩
  | l1PageTableMalformedBit2 | l1PageTableMalformedBit3 | l1PageTableMalformedBit4 =>
    exact ⟨_, rfl, .malformed _ rfl rfl⟩
  | l1Section | l1Supersection => exact ⟨_, rfl, .map _ (.inl rfl) rfl rfl⟩
  | l2LargePage | l2SmallPage => exact ⟨_, rfl, .map _ (.inr rfl) rfl rfl⟩
  | ap001 | ap011 | ap101 => exact ⟨_, rfl, .label ⟨nofun, nofun, nofun⟩ rfl (labelled_deliverAccess _ s)⟩
  | texcbStronglyOrdered | texcbDevice | texcbCached =>
    exact ⟨_, rfl, .label ⟨nofun, nofun, nofun⟩ rfl (labelled_deliverCacheAttr _ s)⟩
  | cache00 | cache01 | cache10 | cache11 => exact ⟨_, rfl, .label ⟨nofun, nofun, nofun⟩ rfl (labelled_deliverPolicy _ s)⟩
  | xn0 | xn1 => exact ⟨_, rfl, .label ⟨nofun, nofun, nofun⟩ rfl (labelled_deliverExecuteNever _ s)⟩
  | ap000Reserved | ap010Reserved | ap100Reserved | ap110Reserved | ap111Reserved =>
    exact ⟨_, rfl, .refuse ⟨nofun, nofun, nofun⟩ rfl (refused_failAccess _ s)⟩
  | texcbReserved02 | texcbReserved04 | texcbReserved08 =>
    exact ⟨_, rfl, .refuse ⟨nofun, nofun, nofun⟩ rfl (refused_failCacheAttr _ s)⟩
  | start r => exact ⟨_, exec_start r s, execEffect_start r s⟩

/-- Settles O16, by the eight things an instruction can do. -/
theorem instructionsCompleteWithFrame : Obligations.InstructionsCompleteWithFrame := by
  intro i s
  obtain ⟨t, ht, he⟩ := exec_effect i s
  refine ⟨t, ht, ?_⟩
  cases he with
  | skip hf hm hr => rcases hf with hf | hf <;> simp [hf]
  | descend f => simp [encode, Encoded.format]
  | malformed d hf hr => simp [hf, hr]
  | map e hf hm hr => rcases hf with hf | hf <;> simp [hf, hm]
  | ignoredStart r => simp [encode, Encoded.format]
  | begin r => simp [encode, Encoded.format, Status.started]
  | label hf hr ht =>
    obtain ⟨h1, h2, hc⟩ := hf
    rcases ht with ⟨a, rfl⟩ | ⟨hd, hfl, f, rfl⟩
    · simp [h1, h2, hc]
    · simp [h1, h2, hc, hd, hfl]
  | refuse hf hr ht =>
    obtain ⟨h1, h2, hc⟩ := hf
    rcases ht with ⟨a, rfl⟩ | ⟨hd, hfl, e, rfl⟩
    · simp [h1, h2, hc]
    · simp [h1, h2, hc, hr, hd, hfl]

/-! ## Facts about consistent states -/

/-- A walk runs and no item is on its way to the consumer: every running state but EMIT and PASS_END. -/
def WalkState.unoffered : WalkState → Bool
  | .passStart | .route | .l1Fetch | .l1Decode | .l2Fetch | .l2Decode | .advance => true
  | .idle | .emit | .passEnd | .done | .error => false

theorem WalkState.running_of_unoffered {w : WalkState} (h : w.unoffered = true) : w.running = true := by
  revert h; cases w <;> decide

theorem WalkState.not_item_of_unoffered {w : WalkState} (h : w.unoffered = true) : w ≠ .emit ∧ w ≠ .passEnd := by
  revert h; cases w <;> decide

theorem WaitsOn.st_cases {s : State} {item : StreamItem} (h : WaitsOn s item) : s.st = .emit ∨ s.st = .passEnd := by
  obtain ⟨-, -, -, hitem⟩ := h
  cases item with
  | entry e => exact .inl hitem.1
  | endOfPass t => exact .inr hitem.1

theorem WaitsOn.entKind {s : State} {item : StreamItem} (h : WaitsOn s item) : s.entKind = .none := h.2.2.1

theorem FlushOk.waits {s : State} (h : FlushOk s) (hf : s.flush ≠ .idle) : ∃ item, WaitsOn s item := by
  unfold FlushOk at h
  split at h
  next hidle => exact absurd hidle hf
  next item _ => exact ⟨item, h⟩
  next item _ _ => exact ⟨item, h.1⟩
  next item _ _ _ => exact ⟨item, h.1⟩
  next item _ _ _ _ => exact ⟨item, h.1⟩

theorem flushOk_of_idle {s : State} (h : s.flush = .idle) : FlushOk s := by
  simp [FlushOk, h]

/-- Away from EMIT and PASS_END nothing is on offer and no flush runs. -/
theorem Consistent.nothing_offered {s : State} (h : Consistent s) (he : s.st ≠ .emit) (hp : s.st ≠ .passEnd) :
    s.entKind = .none ∧ s.flush = .idle := by
  constructor
  · cases hk : s.entKind with
    | none => rfl
    | entry => exact absurd (h.offer_entry hk).1 he
    | endOfPass => exact absurd (h.offer_end hk).1 hp
  · by_contra hf
    obtain ⟨item, hw⟩ := h.flush_ok.waits hf
    exact hw.st_cases.elim he hp

/-- STATUS agrees with every other state of the same walk. -/
theorem Consistent.status_of_running {s : State} (h : Consistent s) (hs : s.st.running = true) {w : WalkState}
    (hw : w.running = true) :
    s.status.busy = w.running ∧ (s.status.err = true ↔ w = .error) ∧ (s.status.done = true ↔ w = .done) := by
  obtain ⟨hb, he, hd⟩ := h.status_running hs
  refine ⟨hb.trans hw.symm, ?_, ?_⟩
  · refine iff_of_false (by simp [he]) ?_
    rintro rfl
    cases hw
  · refine iff_of_false (by simp [hd]) ?_
    rintro rfl
    cases hw

theorem Consistent.idle_or_done {s : State} (h : Consistent s) (hb : s.status.busy = false) (he : s.status.err = false) :
    s.st = .idle ∨ s.st = .done := by
  have hr := h.busy_iff.symm.trans hb
  have hne := mt h.err_iff.mpr (by simp [he])
  revert hr hne
  cases s.st <;> simp [WalkState.running]

theorem toNat_va32 {va : Wide} (h : va.toNat < 0x100000000) : (va32 va).toNat = va.toNat := by
  simp [va32, BitVec.toNat_setWidth]; omega

/-- Where the granule being looked up lies (R33, R133). -/
theorem Consistent.granule_bounds {s : State} (h : Consistent s) (hs : s.st = .emit) :
    (va32 s.va).toNat = s.va.toNat ∧ s.va.toNat % 1024 = 0 ∧ s.va.toNat < 0x100000000 ∧
      (s.tbl = 0 → s.va.toNat < 0x02000000) ∧ (s.tbl = 1 → 0x02000000 ≤ s.va.toNat) := by
  have hlt := (h.scanning_va (by rw [hs]; rfl)).1
  have hroute := h.probing_routed (by rw [hs]; rfl)
  refine ⟨toNat_va32 hlt, h.va_aligned, hlt, fun ht => ?_, fun ht => (route_eq_one_iff s.va).mp (hroute.trans ht)⟩
  by_contra hge
  have h1 := (route_eq_one_iff s.va).mpr (by omega)
  rw [hroute, ht] at h1
  cases h1

/-! ## The ranges that an entry leaves -/

theorem Consistent.rangeOk_startedBy {s : State} (h : Consistent s) (hs : s.st = .emit) (hc : s.coalescer = true)
    {e : MappingEntry} (he : e.virtualAddress = va32 s.va) : RangeOk { s with cur := Accumulator.startedBy e } := by
  obtain ⟨hva, hmod, hlt, h0, h1⟩ := h.granule_bounds hs
  have hsize : granule.toNat = 1024 := rfl
  simp only [RangeOk, Accumulator.startedBy_size, Accumulator.startedBy_vstart, he, hva, hsize]
  exact ⟨hc, by decide, by decide, hmod, by omega, fun ht => by have := h0 ht; omega, h1⟩

theorem Consistent.rangeOk_extend {s : State} (h : Consistent s) (hs : s.st = .emit) {e : MappingEntry}
    (he : e.virtualAddress = va32 s.va) (hx : s.cur.extendedBy e = true) : RangeOk { s with cur := s.cur.extend } := by
  obtain ⟨hva, hmod, hlt, h0, -⟩ := h.granule_bounds hs
  obtain ⟨hv, -, -, -, -, hend⟩ := (extendedBy_iff s.cur e).mp hx
  obtain ⟨hc, hpos, hsize, hstart, hle, -, h1⟩ := h.cur_ok hv
  rw [he, hva] at hend
  have hgrow := toNat_add_granule (va := s.cur.size) (by omega)
  simp only [RangeOk, Accumulator.extend_size, Accumulator.extend_vstart, hgrow]
  exact ⟨hc, by omega, by omega, hstart, by omega, fun ht => by have := h0 ht; omega, h1⟩

/-! ## The clauses of consistency that need no item and no descriptor -/

/-- The states in which nothing is on offer and no granule is being looked up. -/
def WalkState.between : WalkState → Bool
  | .idle | .passStart | .route | .advance | .done | .error => true
  | .l1Fetch | .l1Decode | .l2Fetch | .l2Decode | .emit | .passEnd => false

/-- The clauses of `Consistent` that speak of no item, no flush and no descriptor. -/
structure RegistersOk (s : State) : Prop where
  image_wf : s.image.wf = true
  va_aligned : s.va.toNat % 1024 = 0
  va_le : s.va.toNat ≤ 0x100000000
  busy_iff : s.status.busy = s.st.running
  err_iff : s.status.err = true ↔ s.st = .error
  done_iff : s.status.done = true ↔ s.st = .done
  err_code : s.status.err = true →
    s.status.errCode = 2 ∨ s.status.errCode = 3 ∨ s.status.errCode = 4 ∨ s.status.errCode = 5
  err_lvl : s.status.errLvl = 1 → s.status.errCode = 2
  no_err : s.status.err = false →
    s.status.errCode = 0 ∧ s.status.errTbl = 0 ∧ s.status.errLvl = 0 ∧ s.errVa = 0 ∧ s.errAddr = 0 ∧ s.errData = 0
  snap_eq : s.status.busy = true → s.snap = s.cfg
  scanning_va : s.st.scanning = true → s.va.toNat < 0x100000000 ∧ s.root ≠ 0
  cur_ok : s.cur.valid = true → RangeOk s
  cur_fresh : s.st = .idle ∨ s.st = .passStart ∨ s.st = .done → s.cur.valid = false
  cur_pass_start : s.st = .passStart → s.cur = Accumulator.zero

/-- Between items and lookups the other clauses say nothing. -/
theorem RegistersOk.consistent {s : State} (r : RegistersOk s) (hs : s.st.between = true) (hk : s.entKind = .none)
    (hf : s.flush = .idle) : Consistent s := by
  have hne : ∀ {w : WalkState}, w.between = false → s.st ≠ w := by
    rintro w hw rfl
    simp [hs] at hw
  exact { r with
    probing_routed := fun hp => by revert hs hp; cases s.st <;> simp [WalkState.between, WalkState.probing]
    offer_entry := by simp [hk]
    offer_end := by simp [hk]
    offer_some := by simp [hne (w := .emit) rfl, hne (w := .passEnd) rfl]
    offer_resolved := by simp [hk]
    flush_ok := flushOk_of_idle hf
    l1_latched := by simp [hne (w := .l1Decode) rfl, hne (w := .l2Fetch) rfl, hne (w := .l2Decode) rfl]
    l1_page_table := by simp [hne (w := .l2Fetch) rfl, hne (w := .l2Decode) rfl]
    l2_latched := by simp [hne (w := .l2Decode) rfl] }

/-! ## Small changes that keep a state consistent -/

/-- What stands around the walk plays no part in consistency. -/
theorem Consistent.environment {s : State} (h : Consistent s) (direct : Option AttrQuery) (answers : Answers)
    (consumerReady memoryReady : Bool) (readLog : List Word) (inputs : List Input) :
    Consistent
      { s with
        direct := direct
        answers := answers
        consumerReady := consumerReady
        memoryReady := memoryReady
        readLog := readLog
        inputs := inputs } := { h with }

/-- What was delivered plays no part in consistency. -/
theorem Consistent.delivered {s : State} (h : Consistent s) (items : List StreamItem) (ranges : List MergedRange) :
    Consistent { s with items := items, ranges := ranges } := { h with }

/-- From one state of a granule's lookup to the next. -/
theorem Consistent.moveTo {s : State} (h : Consistent s) (hs : s.st.unoffered = true) (hscan : s.st.scanning = true)
    (w : WalkState) (hw : w.unoffered = true) (hwscan : w.scanning = true)
    (hroute : w.probing = true → route s.va = s.tbl)
    (hl1 : w = .l1Decode ∨ w = .l2Fetch ∨ w = .l2Decode →
      s.l1a = l1Addr s.tbl s.root (va32 s.va) ∧ fetchWord s s.l1a = some s.l1d := by simp)
    (hpt : w = .l2Fetch ∨ w = .l2Decode → s.l1d.extractLsb' 0 5 = 1 := by simp)
    (hl2 : w = .l2Decode → s.l2a = l2AddrNow s ∧ fetchWord s s.l2a = some s.l2d := by simp) :
    Consistent { s with st := w } := by
  obtain ⟨hse, hsp⟩ := WalkState.not_item_of_unoffered hs
  obtain ⟨hwe, hwp⟩ := WalkState.not_item_of_unoffered hw
  obtain ⟨hk, hf⟩ := h.nothing_offered hse hsp
  obtain ⟨hb, he, hd⟩ := h.status_of_running (WalkState.running_of_unoffered hs) (WalkState.running_of_unoffered hw)
  exact { h with
    busy_iff := hb
    err_iff := he
    done_iff := hd
    scanning_va := fun _ => h.scanning_va hscan
    probing_routed := hroute
    offer_entry := by simp [hk]
    offer_end := by simp [hk]
    offer_some := by simp [hwe, hwp]
    flush_ok := flushOk_of_idle hf
    cur_fresh := by rintro (rfl | rfl | rfl) <;> cases hwscan
    cur_pass_start := by rintro rfl; cases hwscan
    l1_latched := hl1
    l1_page_table := hpt
    l2_latched := hl2 }

/-- Into ROUTE, with the scan counter at a granule address (R132, R136). -/
theorem Consistent.toRoute {s : State} (h : Consistent s) (hs : s.st.unoffered = true) {v : Wide}
    (hmod : v.toNat % 1024 = 0) (hlt : v.toNat < 0x100000000) (hroot : s.root ≠ 0) :
    Consistent { s with va := v, st := .route } := by
  obtain ⟨hse, hsp⟩ := WalkState.not_item_of_unoffered hs
  obtain ⟨hk, hf⟩ := h.nothing_offered hse hsp
  obtain ⟨hb, he, hd⟩ := h.status_of_running (WalkState.running_of_unoffered hs) (w := .route) rfl
  refine RegistersOk.consistent ?_ rfl hk hf
  exact { h with
    va_aligned := hmod
    va_le := hlt.le
    busy_iff := hb
    err_iff := he
    done_iff := hd
    scanning_va := fun _ => ⟨hlt, hroot⟩
    cur_fresh := by simp
    cur_pass_start := nofun }

/-- Into PASS_END, with the scan counter where the pass left it (R132, R136, R149). -/
theorem Consistent.enterPassEnd {s : State} (h : Consistent s) (hs : s.st.unoffered = true) {v : Wide}
    (hmod : v.toNat % 1024 = 0) (hle : v.toNat ≤ 0x100000000) :
    Consistent (enterPassEnd { s with va := v }) := by
  obtain ⟨hse, hsp⟩ := WalkState.not_item_of_unoffered hs
  obtain ⟨-, hf⟩ := h.nothing_offered hse hsp
  obtain ⟨hb, he, hd⟩ := h.status_of_running (WalkState.running_of_unoffered hs) (w := .passEnd) rfl
  exact { h with
    va_aligned := hmod
    va_le := hle
    busy_iff := hb
    err_iff := he
    done_iff := hd
    scanning_va := nofun
    probing_routed := nofun
    offer_entry := nofun
    offer_end := fun _ => ⟨rfl, hf, rfl⟩
    offer_some := fun _ _ => nofun
    offer_resolved := nofun
    flush_ok := flushOk_of_idle hf
    cur_fresh := by simp
    cur_pass_start := nofun
    l1_latched := by simp
    l1_page_table := by simp
    l2_latched := nofun }

/-- Into EMIT, with the entry that the granule resolves to (R134, R147). -/
theorem Consistent.emitEntry {s : State} (h : Consistent s) (hs : s.st = .l1Decode ∨ s.st = .l2Decode) {e : MappingEntry}
    (he : BigStep.resolve s.window s.tbl s.root (va32 s.va) = .entry e) : Consistent (emitEntry e s) := by
  have hu : s.st.unoffered = true := by rcases hs with hs | hs <;> rw [hs] <;> rfl
  have hprobe : s.st.probing = true := by rcases hs with hs | hs <;> rw [hs] <;> rfl
  have hscan : s.st.scanning = true := by rcases hs with hs | hs <;> rw [hs] <;> rfl
  obtain ⟨hse, hsp⟩ := WalkState.not_item_of_unoffered hu
  obtain ⟨-, hf⟩ := h.nothing_offered hse hsp
  obtain ⟨hb, herr, hd⟩ := h.status_of_running (WalkState.running_of_unoffered hu) (w := .emit) rfl
  exact { h with
    busy_iff := hb
    err_iff := herr
    done_iff := hd
    scanning_va := fun _ => h.scanning_va hscan
    probing_routed := fun _ => h.probing_routed hprobe
    offer_entry := fun _ => ⟨rfl, hf, resolve_virtualAddress he⟩
    offer_end := nofun
    offer_some := fun _ _ => nofun
    offer_resolved := fun _ => he
    flush_ok := flushOk_of_idle hf
    cur_fresh := by simp
    cur_pass_start := nofun
    l1_latched := by simp
    l1_page_table := by simp
    l2_latched := nofun }

/-- The block waits for a flush. -/
theorem Consistent.waiting {s : State} (h : Consistent s) {k : EntKind} {f : FlushStep} (hf : f ≠ .idle)
    (hok : FlushOk { s with entKind := k, flush := f }) : Consistent { s with entKind := k, flush := f } := by
  obtain ⟨item, hw⟩ := hok.waits hf
  obtain rfl : k = .none := hw.entKind
  exact { h with
    offer_entry := nofun
    offer_end := nofun
    offer_some := fun _ hidle => absurd hidle hf
    offer_resolved := nofun
    flush_ok := hok }

/-- The entry at EMIT is finished: on to ADVANCE with what the consumer keeps (R147, R233, R234). -/
theorem Consistent.finishEntry {s : State} (h : Consistent s) (hs : s.st = .emit) {k : EntKind} {f : FlushStep}
    {c : Accumulator} (hk : k = .none) (hf : f = .idle) (hc : c.valid = true → RangeOk { s with cur := c }) :
    Consistent { s with entKind := k, flush := f, cur := c, st := .advance } := by
  subst hk hf
  obtain ⟨hb, he, hd⟩ := h.status_of_running (by rw [hs]; rfl) (w := .advance) rfl
  refine RegistersOk.consistent ?_ rfl rfl rfl
  exact { h with
    busy_iff := hb
    err_iff := he
    done_iff := hd
    scanning_va := fun _ => h.scanning_va (by rw [hs]; rfl)
    cur_ok := hc
    cur_fresh := by simp
    cur_pass_start := nofun }

/-- The pass is finished: the second pass, or DONE (R149, R150). -/
theorem Consistent.finishPass {s : State} (h : Consistent s) (hs : s.st = .passEnd) {k : EntKind} {f : FlushStep}
    {c : Accumulator} (hk : k = .none) (hf : f = .idle) (hc : c.valid = false) :
    Consistent (finishPass { s with entKind := k, flush := f, cur := c }) := by
  subst hk hf
  obtain ⟨hb, he, hd⟩ := h.status_of_running (by rw [hs]; rfl) (w := .passStart) rfl
  by_cases ht : s.tbl = 0
  · rw [finishPass_first (by exact ht)]
    refine RegistersOk.consistent ?_ rfl rfl rfl
    exact { h with
      busy_iff := hb
      err_iff := he
      done_iff := hd
      scanning_va := nofun
      cur_ok := nofun
      cur_fresh := fun _ => rfl
      cur_pass_start := fun _ => rfl }
  · rw [finishPass_second (by exact ht)]
    refine RegistersOk.consistent ?_ rfl rfl rfl
    exact { h with
      busy_iff := rfl
      err_iff := by simpa using he
      done_iff := by simp
      snap_eq := nofun
      scanning_va := nofun
      cur_ok := by simp [hc]
      cur_fresh := fun _ => hc
      cur_pass_start := nofun }

/-- The fatal transition (R258), with the address latches of a failed fetch written. -/
theorem Consistent.raise {s : State} (h : Consistent s) (hs : s.st.running = true) {e : ErrInfo} {a₁ a₂ : Word}
    (hc : e.code = 2 ∨ e.code = 3 ∨ e.code = 4 ∨ e.code = 5) (hl : e.lvl = 1 → e.code = 2) :
    Consistent (raise e { s with l1a := a₁, l2a := a₂ }) := by
  obtain ⟨-, -, hd⟩ := h.status_running hs
  refine RegistersOk.consistent ?_ rfl rfl rfl
  exact { h with
    busy_iff := rfl
    err_iff := by simp
    done_iff := by simp [hd]
    err_code := fun _ => hc
    err_lvl := hl
    no_err := nofun
    snap_eq := nofun
    scanning_va := nofun
    cur_fresh := by simp
    cur_pass_start := nofun }

/-! ## The host's changes -/

theorem Consistent.beginWalk {s : State} (h : Consistent s) (hb : s.status.busy = false) (he : s.status.err = false) :
    Consistent (beginWalk s) := by
  have hst := h.idle_or_done hb he
  have hf : s.flush = .idle := (h.nothing_offered (by rcases hst with hst | hst <;> simp [hst])
    (by rcases hst with hst | hst <;> simp [hst])).2
  refine RegistersOk.consistent ?_ rfl rfl hf
  exact { h with
    busy_iff := rfl
    err_iff := by simp [he]
    done_iff := by simp
    snap_eq := fun _ => rfl
    scanning_va := nofun
    cur_ok := nofun
    cur_fresh := fun _ => rfl
    cur_pass_start := fun _ => rfl }

/-- Reset needs nothing of the state it ends but an image in canonical form. -/
theorem consistent_applyReset {s : State} (h : s.image.wf = true) : Consistent (applyReset s) :=
  RegistersOk.consistent (hs := rfl) (hk := rfl) (hf := rfl) {
    image_wf := h
    va_aligned := rfl
    va_le := Nat.zero_le _
    busy_iff := rfl
    err_iff := by simp [State.reset, Status.zero]
    done_iff := by simp [State.reset, Status.zero]
    err_code := nofun
    err_lvl := nofun
    no_err := fun _ => ⟨rfl, rfl, rfl, rfl, rfl, rfl⟩
    snap_eq := nofun
    scanning_va := nofun
    cur_ok := nofun
    cur_fresh := fun _ => rfl
    cur_pass_start := nofun }

/-- Settles O55: the state after reset is one that reset leads to. -/
theorem resetIsConsistent : Obligations.ResetIsConsistent := consistent_applyReset (s := State.reset) rfl

theorem Consistent.writeConfig {s : State} (h : Consistent s) (hb : s.status.busy = false) (c : ConfigRegs) :
    Consistent { s with cfg := c } :=
  { h with snap_eq := by simp [hb] }

theorem Consistent.loadImage {s : State} (h : Consistent s) (hb : s.status.busy = false) {m : Memory} (hm : m.wf = true) :
    Consistent { s with image := m } := by
  have idle : ∀ {w : WalkState}, w.running = true → s.st ≠ w := by
    rintro w hw rfl
    rw [← h.busy_iff, hb] at hw
    cases hw
  exact { h with
    image_wf := hm
    offer_resolved := fun hk => absurd (h.offer_entry hk).1 (idle rfl)
    l1_latched := by rintro (hst | hst | hst) <;> exact absurd hst (idle rfl)
    l2_latched := fun hst => absurd hst (idle rfl) }

/-! ## The walker's moves keep a state consistent -/

theorem Consistent.startPass {s : State} (h : Consistent s) (hs : s.st = .passStart) : Consistent (startPass s) := by
  have hu : s.st.unoffered = true := by rw [hs]; rfl
  by_cases hr : s.snap.root s.tbl = 0
  · rw [startPass_absent hr]
    exact h.enterPassEnd hu h.va_aligned h.va_le
  · rw [startPass_present hr]
    exact h.toRoute hu (by decide) (by decide) hr

theorem Consistent.routeGranule {s : State} (h : Consistent s) (hs : s.st = .route) : Consistent (routeGranule s) := by
  by_cases hr : route s.va = s.tbl
  · rw [routeGranule_in hr]
    exact h.moveTo (by rw [hs]; rfl) (by rw [hs]; rfl) .l1Fetch rfl rfl fun _ => hr
  · rw [routeGranule_out hr]
    exact h.moveTo (by rw [hs]; rfl) (by rw [hs]; rfl) .advance rfl rfl nofun

/-- The first-level latches may be written where nothing rests on them yet (R35). -/
theorem Consistent.latchL1 {s : State} (h : Consistent s) (hs : s.st = .l1Fetch) (a d : Word) :
    Consistent { s with l1a := a, l1d := d } :=
  { h with
    l1_latched := by simp [hs]
    l1_page_table := by simp [hs]
    l2_latched := by simp [hs] }

/-- The second-level latches may be written where nothing rests on them yet (R36). -/
theorem Consistent.latchL2 {s : State} (h : Consistent s) (hs : s.st = .l2Fetch) (a d : Word) :
    Consistent { s with l2a := a, l2d := d } :=
  { h with l2_latched := by simp [hs] }

theorem Consistent.fetchL1 {s : State} (h : Consistent s) (hs : s.st = .l1Fetch) : Consistent (fetchL1 s) := by
  cases hw : fetchWord s (l1Addr s.tbl (s.snap.root s.tbl) (va32 s.va)) with
  | none =>
    rw [fetchL1_outside hw]
    exact h.raise (by rw [hs]; rfl) (.inl rfl) fun _ => rfl
  | some d =>
    rw [fetchL1_inside hw]
    exact (h.latchL1 hs _ d).moveTo (by rw [hs]; rfl) (by rw [hs]; rfl) .l1Decode rfl rfl
      (fun _ => h.probing_routed (by rw [hs]; rfl)) (fun _ => ⟨rfl, hw⟩)

theorem Consistent.fetchL2 {s : State} (h : Consistent s) (hs : s.st = .l2Fetch) : Consistent (fetchL2 s) := by
  cases hw : fetchWord s (l2AddrNow s) with
  | none =>
    rw [fetchL2_outside hw]
    exact h.raise (by rw [hs]; rfl) (.inl rfl) fun _ => rfl
  | some d =>
    rw [fetchL2_inside hw]
    exact (h.latchL2 hs _ d).moveTo (by rw [hs]; rfl) (by rw [hs]; rfl) .l2Decode rfl rfl
      (fun _ => h.probing_routed (by rw [hs]; rfl)) (fun _ => h.l1_latched (.inr (.inl hs)))
      (fun _ => h.l1_page_table (.inl hs)) (fun _ => ⟨rfl, hw⟩)

theorem Consistent.skipGranule {s : State} (h : Consistent s) (hs : s.st = .l1Decode ∨ s.st = .l2Decode) :
    Consistent (skipGranule s) :=
  h.moveTo (by rcases hs with hs | hs <;> rw [hs] <;> rfl) (by rcases hs with hs | hs <;> rw [hs] <;> rfl)
    .advance rfl rfl nofun

theorem Consistent.advance {s : State} (h : Consistent s) (hs : s.st = .advance) : Consistent (advance s) := by
  have hu : s.st.unoffered = true := by rw [hs]; rfl
  obtain ⟨hlt, hroot⟩ := h.scanning_va (by rw [hs]; rfl)
  have hmod := h.va_aligned
  have hva := toNat_add_granule hlt
  by_cases he : s.va + granule = scanEnd
  · rw [advance_end he]
    exact h.enterPassEnd hu (by omega) (by omega)
  · rw [advance_on he]
    have hne : (s.va + granule).toNat ≠ 0x100000000 := fun heq => he (BitVec.eq_of_toNat_eq heq)
    exact h.toRoute hu (by omega) (by omega) hroot

/-! ## Descriptors keep a state consistent -/

/-- In L1_DECODE the granule resolves to what the latched descriptor says (R134, R140). -/
theorem Consistent.resolve_l1Decode {s : State} (h : Consistent s) (hs : s.st = .l1Decode) :
    BigStep.resolve s.window s.tbl s.root (va32 s.va) = BigStep.resolveL1 s.window s.l1a s.l1d (va32 s.va) := by
  obtain ⟨ha, hw⟩ := h.l1_latched (.inl hs)
  have hread : s.window.read (l1Addr s.tbl s.root (va32 s.va)) = some s.l1d := ha ▸ hw
  rw [BigStep.resolve, hread, ha]

/-- The low bits of a well-formed Page Table descriptor: its type, and zeros (R94, R140). -/
theorem pageTable_bits {d : Word} (h : d.extractLsb' 0 5 = 1) : d.extractLsb' 0 2 = 1 ∧ d.extractLsb' 1 4 = 0 := by
  have hb : ∀ i, (d.extractLsb' 0 5).getLsbD i = (1#5).getLsbD i := fun i => by rw [h]; rfl
  have h2 : d.getLsbD 2 = false := by simpa using hb 2
  have h3 : d.getLsbD 3 = false := by simpa using hb 3
  have h4 : d.getLsbD 4 = false := by simpa using hb 4
  have ht : d.extractLsb' 0 2 = 1 := type_one.mpr ⟨by simpa using hb 0, by simpa using hb 1⟩
  exact ⟨ht, (sbz_zero ht).mpr ⟨h2, h3, h4⟩⟩

/-- In L2_DECODE the granule resolves to what the latched second-level descriptor says (R134, R144). -/
theorem Consistent.resolve_l2Decode {s : State} (h : Consistent s) (hs : s.st = .l2Decode) :
    BigStep.resolve s.window s.tbl s.root (va32 s.va) = BigStep.resolveL2 s.l2d (va32 s.va) := by
  obtain ⟨ha, hw⟩ := h.l1_latched (.inr (.inr hs))
  have hread : s.window.read (l1Addr s.tbl s.root (va32 s.va)) = some s.l1d := ha ▸ hw
  obtain ⟨ha2, hw2⟩ := h.l2_latched hs
  rw [l2AddrNow, l2Addr_of_word] at ha2
  have hread2 : s.window.read (BigStep.l2AddrWord s.l1d (va32 s.va)) = some s.l2d := ha2 ▸ hw2
  obtain ⟨htype, hsbz⟩ := pageTable_bits (h.l1_page_table (.inr hs))
  rw [BigStep.resolve, hread]
  simp [BigStep.resolveL1, htype, hsbz, hread2]

theorem Consistent.execL1 {s t : State} (h : Consistent s) (hs : s.st = .l1Decode)
    (ht : exec (decodeL1 s.l1d) s = .next t) : Consistent t := by
  have hres := h.resolve_l1Decode hs
  rcases exec_decodeL1_cases s.l1d s with ⟨-, hx⟩ | ⟨-, -, hx⟩ | ⟨-, -, hpt, hx⟩ | ⟨h2, h18, hx⟩ | ⟨h2, h18, hx⟩ <;>
    obtain rfl := Host.Outcome.next.inj (hx.symm.trans ht)
  · exact h.skipGranule (.inl hs)
  · exact h.raise (by rw [hs]; rfl) (.inr (.inl rfl)) nofun
  · have hd : Consistent { s with dom := s.l1d.extractLsb' 5 4 } := { h with }
    exact hd.moveTo (by rw [hs]; rfl) (by rw [hs]; rfl) .l2Fetch rfl rfl
      (fun _ => h.probing_routed (by rw [hs]; rfl)) (fun _ => h.l1_latched (.inl hs)) (fun _ => hpt)
  · exact h.emitEntry (.inl hs) (by rw [hres]; simp [BigStep.resolveL1, h2, h18, -BitVec.getLsbD_eq_getElem])
  · exact h.emitEntry (.inl hs) (by rw [hres]; simp [BigStep.resolveL1, h2, h18, -BitVec.getLsbD_eq_getElem])

theorem Consistent.execL2 {s t : State} (h : Consistent s) (hs : s.st = .l2Decode)
    (ht : exec (decodeL2 s.l2d) s = .next t) : Consistent t := by
  have hres := h.resolve_l2Decode hs
  rcases exec_decodeL2_cases s.l2d s with ⟨-, hx⟩ | ⟨h1, hx⟩ | ⟨h23, hx⟩ <;>
    obtain rfl := Host.Outcome.next.inj (hx.symm.trans ht)
  · exact h.skipGranule (.inr hs)
  · exact h.emitEntry (.inr hs) (by rw [hres]; simp [BigStep.resolveL2, h1])
  · exact h.emitEntry (.inr hs) (by rw [hres]; rcases h23 with h2 | h3 <;> simp [BigStep.resolveL2, *])

/-! ## Items and flushes keep a state consistent -/

theorem Consistent.offered_cases {s : State} (h : Consistent s) {item : StreamItem} (ho : offered s = some item) :
    s.flush = .idle ∧
      ((s.st = .emit ∧ item = .entry s.ent ∧ s.ent.virtualAddress = va32 s.va) ∨
       (s.st = .passEnd ∧ item = .endOfPass s.tbl)) := by
  unfold offered at ho
  split at ho
  next => cases ho
  next hk =>
    obtain ⟨hs, hf, hva⟩ := h.offer_entry hk
    exact ⟨hf, .inl ⟨hs, (Option.some.inj ho).symm, hva⟩⟩
  next hk =>
    obtain ⟨hs, hf, ht⟩ := h.offer_end hk
    exact ⟨hf, .inr ⟨hs, by rw [← Option.some.inj ho, ht]⟩⟩

/-- Without the coalescer the accumulator stays empty. -/
theorem Consistent.no_range {s : State} (h : Consistent s) (hc : s.coalescer = false) : s.cur.valid = false := by
  rw [← Bool.not_eq_true]
  intro hv
  obtain ⟨ht, -⟩ := h.cur_ok hv
  simp [hc] at ht

/-- An entry on offer is taken by the coalescer (R232 to R234). -/
theorem Consistent.coalesceEntry {s : State} (h : Consistent s) (hs : s.st = .emit) (hf : s.flush = .idle)
    (hc : s.coalescer = true) (hva : s.ent.virtualAddress = va32 s.va) :
    Consistent (coalesceItem (.entry s.ent) { s with entKind := .none }) := by
  cases hv : s.cur.valid with
  | false =>
    rw [coalesceItem_first (by exact hv)]
    exact h.finishEntry hs rfl hf fun _ => h.rangeOk_startedBy hs hc hva
  | true => cases hx : s.cur.extendedBy s.ent with
    | true =>
      rw [coalesceItem_extend (by exact hx)]
      exact h.finishEntry hs rfl hf fun _ => h.rangeOk_extend hs hva hx
    | false =>
      rw [coalesceItem_flush (by exact hx) (by exact hv)]
      exact h.waiting nofun ⟨hc, hv, rfl, hs, hx, hva⟩

/-- The end of a pass on offer is taken by the coalescer (R236). -/
theorem Consistent.coalesceEnd {s : State} (h : Consistent s) (hs : s.st = .passEnd) (hf : s.flush = .idle)
    (hc : s.coalescer = true) : Consistent (coalesceItem (.endOfPass s.tbl) { s with entKind := .none }) := by
  cases hv : s.cur.valid with
  | false =>
    rw [coalesceItem_endEmpty (by exact hv)]
    exact h.finishPass hs rfl hf rfl
  | true =>
    rw [coalesceItem_endFlush (by exact hv)]
    exact h.waiting nofun ⟨hc, hv, rfl, hs, rfl⟩

theorem Consistent.takeItem {s : State} (h : Consistent s) {item : StreamItem} (ho : offered s = some item) :
    Consistent (takeItem item s) := by
  have hd := h.delivered (s.items ++ [item]) s.ranges
  obtain ⟨hf, ⟨hs, rfl, hva⟩ | ⟨hs, rfl⟩⟩ := h.offered_cases ho
  · cases hc : s.coalescer with
    | true => rw [takeItem_present _ hc]; exact hd.coalesceEntry hs hf hc hva
    | false => rw [takeItem_absent _ hc]; exact hd.finishEntry hs rfl hf h.cur_ok
  · cases hc : s.coalescer with
    | true => rw [takeItem_present _ hc]; exact hd.coalesceEnd hs hf hc
    | false => rw [takeItem_absent _ hc]; exact hd.finishPass hs rfl hf (h.no_range hc)

theorem Consistent.whenReady {s : State} (h : Consistent s) (ready : Bool) {move : State → State}
    (hm : Consistent (move s)) : Consistent (whenReady ready move s) := by
  cases ready
  · exact h
  · exact hm

theorem Consistent.offerStep {s t : State} (h : Consistent s) (ht : offerStep s = .next t) : Consistent t := by
  cases ho : offered s with
  | none => simp [Machine.offerStep, ho] at ht
  | some item =>
    obtain rfl := Host.Outcome.next.inj ((offerStep_some ho).symm.trans ht)
    exact h.whenReady _ (h.takeItem ho)

/-- The Merged Range is emitted and the item that caused the flush is finished (R234 to R236). -/
theorem Consistent.finishFlush {s : State} (h : Consistent s) {item : StreamItem} (hw : WaitsOn s item)
    (c : CacheLabel) (p : AccessLabel) (x : Bool) : Consistent (finishFlush item c p x s) := by
  have hd := h.delivered s.items (s.ranges ++ [s.cur.merged c p x])
  obtain ⟨hc, -, hk, hitem⟩ := hw
  cases item with
  | entry e =>
    obtain ⟨hs, -, hva⟩ := hitem
    exact hd.finishEntry hs hk rfl fun _ => h.rangeOk_startedBy hs hc hva
  | endOfPass t => exact hd.finishPass hitem.1 hk rfl rfl

/-! ## The block's moves keep a state consistent -/

/-- The walk state machine's move, in each of its states (R151). -/
theorem Consistent.walkAction {s t : State} (h : Consistent s) (hf : s.flush = .idle)
    (ht : (blockAction s).outcome = .next t) : Consistent t := by
  rw [blockAction_walk hf] at ht
  cases hs : s.st <;> simp only [hs, Action.outcome_other, Action.outcome_l1, Action.outcome_l2] at ht
  case l1Decode => exact h.execL1 hs ht
  case l2Decode => exact h.execL2 hs ht
  case emit => exact h.offerStep ht
  case passEnd => exact h.offerStep ht
  all_goals obtain rfl := Host.Outcome.next.inj ht
  case passStart => exact h.startPass hs
  case route => exact h.routeGranule hs
  case l1Fetch => exact h.whenReady _ (h.fetchL1 hs)
  case l2Fetch => exact h.whenReady _ (h.fetchL2 hs)
  case advance => exact h.advance hs
  case idle => exact h
  case done => exact h
  case error => exact h

theorem WaitsOn.running {s : State} {item : StreamItem} (h : WaitsOn s item) : s.st.running = true := by
  rcases h.st_cases with hs | hs <;> rw [hs] <;> rfl

/-- The cache decoder's part of a flush (R212, R213, R235). -/
theorem Consistent.flushTexcb {s t : State} (h : Consistent s) (hd : s.direct = none) {item : StreamItem}
    (hf : s.flush = .texcb item) (ht : exec (decodeTEXCB5 s.cur.texcb) s = .next t) : Consistent t := by
  have hw : WaitsOn s item := by simpa only [FlushOk, hf] using h.flush_ok
  rw [exec_decodeTEXCB5] at ht
  obtain rfl := Host.Outcome.next.inj ht
  cases hc : BigStep.decodeTexcb s.cur.texcb with
  | none =>
    simp only [failCacheAttr_flush _ hd hf]
    exact h.raise hw.running (.inr (.inr (.inr rfl))) nofun
  | some c =>
    simp only [deliverCacheAttr_flush c hd hf]
    exact h.waiting nofun ⟨hw, hc⟩

/-- The access decoder's part of a flush (R210, R211, R235). -/
theorem Consistent.flushAp {s t : State} (h : Consistent s) (hd : s.direct = none) {item : StreamItem} {c : CacheLabel}
    (hf : s.flush = .ap item c) (ht : exec (decodeAP3 s.cur.ap) s = .next t) : Consistent t := by
  obtain ⟨hw, hc⟩ : WaitsOn s item ∧ BigStep.decodeTexcb s.cur.texcb = some c := by
    simpa only [FlushOk, hf] using h.flush_ok
  rw [exec_decodeAP3] at ht
  obtain rfl := Host.Outcome.next.inj ht
  cases hp : BigStep.decodeAp s.cur.ap with
  | none =>
    simp only [failAccess_flush _ hd hf]
    exact h.raise hw.running (.inr (.inr (.inl rfl))) nofun
  | some p =>
    simp only [deliverAccess_flush p hd hf]
    exact h.waiting nofun ⟨hw, hc, hp⟩

/-- The execute-never decoder's part of a flush (R215, R235). -/
theorem Consistent.flushXn {s t : State} (h : Consistent s) (hd : s.direct = none) {item : StreamItem} {c : CacheLabel}
    {p : AccessLabel} (hf : s.flush = .xn item c p) (ht : exec (decodeXN1 s.cur.xn) s = .next t) : Consistent t := by
  obtain ⟨hw, hc, hp⟩ :
      WaitsOn s item ∧ BigStep.decodeTexcb s.cur.texcb = some c ∧ BigStep.decodeAp s.cur.ap = some p := by
    simpa only [FlushOk, hf] using h.flush_ok
  rw [exec_decodeXN1, deliverExecuteNever_flush _ hd hf] at ht
  obtain rfl := Host.Outcome.next.inj ht
  exact h.waiting nofun ⟨hw, hc, hp, rfl⟩

/-- One transition of the block, whether the coalescer's or the walker's. -/
theorem Consistent.blockAction {s t : State} (h : Consistent s) (hd : s.direct = none)
    (ht : (blockAction s).outcome = .next t) : Consistent t := by
  cases hf : s.flush with
  | idle => exact h.walkAction hf ht
  | texcb item => exact h.flushTexcb hd hf (by rwa [blockAction_texcb hf] at ht)
  | ap item c => exact h.flushAp hd hf (by rwa [blockAction_ap hf] at ht)
  | xn item c p => exact h.flushXn hd hf (by rwa [blockAction_xn hf] at ht)
  | emit item c p x =>
    have hw : WaitsOn s item := by
      have hok := h.flush_ok
      simp only [FlushOk, hf] at hok
      exact hok.1
    rw [blockAction_emit hf] at ht
    obtain rfl := Host.Outcome.next.inj ht
    exact h.whenReady _ (h.finishFlush hw c p x)

/-- Settles O54: each thing a step can have done keeps every clause of the invariant. -/
theorem consistencyIsKept : Obligations.ConsistencyIsKept := by
  intro s t h ht
  have henv := h.environment
  rcases step_cases ht with ⟨-, a, rfl⟩ | ⟨hd, -, hb⟩ | ⟨hd, rest, -, hb⟩ | ⟨-, _, _, rest, -, rfl⟩ |
    ⟨-, _, _, rest, c, -, -, hbusy, rfl⟩ | ⟨-, _, rest, -, hbusy, herr, rfl⟩ | ⟨-, _, rest, l, -, rfl⟩ |
    ⟨-, rest, -, rfl⟩ | ⟨-, cells, rest, -, hbusy, rfl⟩ | ⟨-, q, rest, -, rfl⟩ | ⟨-, ready, rest, -, rfl⟩ |
    ⟨-, ready, rest, -, rfl⟩
  case inl => exact henv none a _ _ _ _
  · exact h.blockAction hd hb
  · exact (henv _ _ _ _ _ rest).blockAction hd hb
  · exact henv _ _ _ _ _ rest
  · exact (henv _ _ _ _ _ rest).writeConfig hbusy c
  · exact (henv _ _ _ _ _ rest).beginWalk hbusy herr
  · exact henv _ _ _ _ l rest
  · exact consistent_applyReset h.image_wf
  · exact (henv _ _ _ _ _ rest).loadImage hbusy (ofCells_wf cells)
  · exact henv (some q) _ _ _ _ rest
  · exact henv _ _ ready _ _ rest
  · exact henv _ _ _ ready _ rest

end Sys2Proof.Machine
end

section
/-! SUPPORT and PROOFS. Memory (spec/20_memory.md): instructions as bytes, descriptor reads, the image the host loads,
and what no step of the block writes. -/

namespace Sys2Proof.Machine

/-! ## The decoder on encoded instructions (R94 to R108) -/

theorem type_restWord (rest : BitVec 30) (t : BitVec 2) : (restWord rest t).extractLsb' 0 2 = t := by
  apply BitVec.eq_of_getLsbD_eq
  intro i hi
  interval_cases i <;> simp [restWord]

theorem rest_restWord (rest : BitVec 30) (t : BitVec 2) : (restWord rest t).extractLsb' 2 30 = rest := by
  apply BitVec.eq_of_getLsbD_eq
  intro i hi
  interval_cases i <;> simp [restWord]

theorem type_pageTableWord (f : PageTableFields) : (pageTableWord f).extractLsb' 0 2 = 1 :=
  type_one.mpr (by simp [pageTableWord])

theorem type_sectionWord (f : SectionFields) : (sectionWord f).extractLsb' 0 2 = 2 :=
  type_two.mpr (by simp [sectionWord])

theorem type_supersectionWord (f : SupersectionFields) : (supersectionWord f).extractLsb' 0 2 = 2 :=
  type_two.mpr (by simp [supersectionWord])

theorem decodeL1_pageTableWord (f : PageTableFields) : decodeL1 (pageTableWord f) = decodePageTable f := by
  simp [decodeL1, type_pageTableWord, pageTableFieldsOf_word]

theorem decodeL1_sectionWord (f : SectionFields) : decodeL1 (sectionWord f) = .l1Section f := by
  have h18 : (sectionWord f).getLsbD 18 = false := by simp [sectionWord]
  rw [decodeL1, type_sectionWord, h18, sectionFieldsOf_word]
  simp

theorem decodeL1_supersectionWord (f : SupersectionFields) :
    decodeL1 (supersectionWord f) = .l1Supersection f := by
  have h18 : (supersectionWord f).getLsbD 18 = true := by simp [supersectionWord]
  rw [decodeL1, type_supersectionWord, h18, supersectionFieldsOf_word]
  simp

theorem decodeL2_largePageWord (f : LargePageFields) : decodeL2 (largePageWord f) = .l2LargePage f := by
  have h1 : (largePageWord f).getLsbD 1 = false := by simp [largePageWord]
  have h0 : (largePageWord f).getLsbD 0 = true := by simp [largePageWord]
  simp only [decodeL2, h1, h0, largePageFieldsOf_word, Bool.false_eq_true, if_false, if_true]

theorem decodeL2_smallPageWord (f : SmallPageFields) : decodeL2 (smallPageWord f) = .l2SmallPage f := by
  have h1 : (smallPageWord f).getLsbD 1 = true := by simp [smallPageWord]
  simp only [decodeL2, h1, smallPageFieldsOf_word, if_true]

theorem decodeL2_restWord (rest : BitVec 30) : decodeL2 (restWord rest 0) = .l2Fault rest := by
  obtain ⟨h0, h1⟩ := type_zero.mp (type_restWord rest 0)
  simp only [decodeL2, h0, h1, rest_restWord, Bool.false_eq_true, if_false]

theorem decodeTEXCB5_cached (outer inner : BitVec 2) :
    decodeTEXCB5 (1#5 <<< 4 ||| outer.setWidth 5 <<< 2 ||| inner.setWidth 5) = .texcbCached outer inner := by
  revert outer inner
  decide

theorem decodeCTRL_start (reserved : BitVec 31) :
    decodeCTRL (reserved.setWidth 32 <<< 1 ||| 1#32) = .ok (.start reserved) := by
  have h0 : (reserved.setWidth 32 <<< 1 ||| 1#32).getLsbD 0 = true := by simp
  have hr : (reserved.setWidth 32 <<< 1 ||| 1#32).extractLsb' 1 31 = reserved := by
    apply BitVec.eq_of_getLsbD_eq
    intro i hi
    interval_cases i <;> simp
  simp only [decodeCTRL, h0, hr, if_true]

/-- The decoder inverts the encoder, format by format (R116). -/
theorem decode_encode (i : Instr) (h : i.wf = true) : decode (encode i) = .ok i := by
  cases i <;> simp only [encode, decode, Except.ok.injEq]
  case l1Fault rest => simp [decodeL1, type_restWord, rest_restWord]
  case l1Reserved rest => simp [decodeL1, type_restWord, rest_restWord]
  case l1PageTable f =>
    have hz : f.sbz = 0 := by simpa [Instr.wf] using h
    simp [decodeL1_pageTableWord, decodePageTable, hz]
  case l1PageTableMalformedBit2 f =>
    simp only [Instr.wf] at h
    simp only [decodeL1_pageTableWord, decodePageTable, h, if_true]
  case l1PageTableMalformedBit3 f | l1PageTableMalformedBit4 f =>
    simp only [Instr.wf, Bool.and_eq_true, Bool.not_eq_true'] at h
    simp only [decodeL1_pageTableWord, decodePageTable, h, Bool.false_eq_true, if_false, if_true]
  case l1Section f => exact decodeL1_sectionWord f
  case l1Supersection f => exact decodeL1_supersectionWord f
  case l2Fault rest => exact decodeL2_restWord rest
  case l2LargePage f => exact decodeL2_largePageWord f
  case l2SmallPage f => exact decodeL2_smallPageWord f
  case texcbCached outer inner => exact decodeTEXCB5_cached outer inner
  case texcbReserved02 t | texcbReserved04 t | texcbReserved08 t => revert t; decide
  case start reserved => exact decodeCTRL_start reserved
  all_goals rfl

/-! ## Instructions as bytes (R62, R90) -/

theorem wordOfBytes_of_word (w : Word) :
    wordOfBytes (w.extractLsb' 0 8) (w.extractLsb' 8 8) (w.extractLsb' 16 8) (w.extractLsb' 24 8) = w := by
  apply BitVec.eq_of_getLsbD_eq
  intro i hi
  interval_cases i <;> simp [wordOfBytes]

theorem encodedOfByte_ap (v : BitVec 3) : encodedOfByte .AP3 (v.setWidth 8) = .ok (.ap v) := by
  revert v; decide

theorem encodedOfByte_texcb (v : BitVec 5) : encodedOfByte .TEXCB5 (v.setWidth 8) = .ok (.texcb v) := by
  revert v; decide

theorem encodedOfByte_cache (v : BitVec 2) : encodedOfByte .CACHE2 (v.setWidth 8) = .ok (.cache v) := by
  revert v; decide

theorem encodedOfByte_xn (v : BitVec 1) : encodedOfByte .XN1 (v.setWidth 8) = .ok (.xn v) := by
  revert v; decide

/-- An encoded instruction is read back from its bytes, and the bytes after it are left. -/
theorem encodedOfBytes_bytes (e : Encoded) (rest : List Byte) :
    encodedOfBytes e.format (e.bytes ++ rest) = .ok (e, rest) := by
  cases e with
  | l1 w | l2 w | ctrl w =>
    simp only [Encoded.format, Encoded.bytes, bytesOfWord, List.cons_append, List.nil_append, encodedOfBytes,
      wordOfBytes_of_word]
  | ap v => simp [Encoded.format, Encoded.bytes, encodedOfBytes, encodedOfByte_ap, Except.map]
  | texcb v => simp [Encoded.format, Encoded.bytes, encodedOfBytes, encodedOfByte_texcb, Except.map]
  | cache v => simp [Encoded.format, Encoded.bytes, encodedOfBytes, encodedOfByte_cache, Except.map]
  | xn v => simp [Encoded.format, Encoded.bytes, encodedOfBytes, encodedOfByte_xn, Except.map]

/-- Settles O3: the bytes give the encoded word back, and the decoder inverts the encoder. -/
theorem decodeOfBytes : Obligations.DecodeOfBytes := by
  intro i rest h
  simp only [decodeBytes, encodedOfBytes_bytes, decode_encode i h]

/-! ## Descriptor reads (R62, R63) -/

/-- Setting bits above those of a word adds them. -/
theorem toNat_or_shiftLeft {w n : Nat} {x y : BitVec w} (hx : x.toNat < 2 ^ n) (hy : 2 ^ n * y.toNat < 2 ^ w) :
    (x ||| y <<< n).toNat = x.toNat + 2 ^ n * y.toNat := by
  rw [BitVec.toNat_or, BitVec.toNat_shiftLeft, Nat.shiftLeft_eq, Nat.mul_comm, Nat.mod_eq_of_lt hy, Nat.or_comm,
    ← Nat.two_pow_add_eq_or_of_lt hx, Nat.add_comm]

theorem toNat_wordOfBytes (b0 b1 b2 b3 : Byte) : (wordOfBytes b0 b1 b2 b3).toNat =
    b0.toNat + 0x100 * b1.toNat + 0x10000 * b2.toNat + 0x1000000 * b3.toNat := by
  have hw : ∀ b : Byte, (b.setWidth 32).toNat = b.toNat := fun b => BitVec.toNat_setWidth_of_le (by decide)
  have h1 := toNat_or_shiftLeft (x := b0.setWidth 32) (y := b1.setWidth 32) (n := 8) (by rw [hw]; omega)
    (by rw [hw]; omega)
  have h2 := toNat_or_shiftLeft (y := b2.setWidth 32) (n := 16) (by rw [h1, hw, hw]; omega) (by rw [hw]; omega)
  have h3 := toNat_or_shiftLeft (y := b3.setWidth 32) (n := 24) (by rw [h2, h1, hw, hw, hw]; omega) (by rw [hw]; omega)
  rw [wordOfBytes, h3, h2, h1, hw, hw, hw, hw]
  omega

theorem memRead_eq_none {m : Memory} {base : Word} {len : Wide} {a : Word}
    (h : ¬(base.toNat ≤ a.toNat ∧ a.toNat - base.toNat + 4 ≤ len.toNat)) : memRead m base len a = none :=
  memRead_outside (by rwa [← Bool.not_eq_true, inBounds_iff])

/-- Settles O24: the bounds check is exact (R63), and the four bytes of a word do not overlap (R62). -/
theorem memReadRule : Obligations.MemReadRule := by
  refine ⟨fun _ _ => rfl, fun m base a len => ⟨fun hlt => ?_, fun hle hlen => ?_, fun hle hlen => ?_⟩⟩
  · exact memRead_eq_none (by omega)
  · exact memRead_eq_none (by omega)
  · exact ⟨_, memRead_inside ((inBounds_iff base len a).mpr ⟨hle, hlen⟩), toNat_wordOfBytes ..⟩

/-! ## Replacing the image (R73) -/

theorem step_loadImage {s : State} {cells : List Host.Cell} {rest : List Input}
    (h : s.hostActs (.loadImage cells) rest) : step s = hostLoad cells (s.afterInput rest) := by
  rw [step_eq_outcome, nextAction_input h.1 h.2, Action.outcome_other]

theorem hostLoad_free {s : State} (cells : List Host.Cell) (h : s.status.busy = false) :
    hostLoad cells s = .next { s with image := Memory.ofCells cells } := by
  simp [hostLoad, h]

theorem ofCells_concat (cells : List Host.Cell) (c : Host.Cell) :
    Memory.ofCells (cells ++ [c]) = (Memory.ofCells cells).place c.1 c.2 := by
  simp [Memory.ofCells]

/-- The last cell loaded for an index counts (log entry 10). -/
theorem byte_ofCells (cells : List Host.Cell) (k : Nat) :
    (Memory.ofCells cells).byte k = (cells.reverse.lookup k).getD 0 := by
  induction cells using List.reverseRecOn with
  | nil => rfl
  | append_singleton cells c ih =>
    obtain ⟨a, b⟩ := c
    rw [ofCells_concat, List.reverse_concat]
    by_cases hk : k = a
    · subst hk
      rw [byte_place_same k b (ofCells_wf cells), List.lookup_cons_self, Option.getD_some]
    · rw [byte_place_other hk, ih, List.lookup_cons, beq_false_of_ne hk]

/-- Settles O48, by induction on the cells from the last one loaded. -/
theorem loadedImageReadsBack : Obligations.LoadedImageReadsBack := by
  intro s cells rest h hb
  refine ⟨Memory.ofCells cells, ?_, ofCells_wf cells, byte_ofCells cells⟩
  rw [step_loadImage h, hostLoad_free cells (by exact hb)]
  rfl

/-! ## What only the host and the environment change (R68, R71, R300) -/

/-- What the block reads and never writes: the image, the configuration, and the environment's flags. -/
structure HostSide where
  coalescer : Bool
  consumerReady : Bool
  memoryReady : Bool
  image : Memory
  cfg : ConfigRegs

/-- The host's side of a state. -/
def State.hostSide (s : State) : HostSide :=
  { coalescer := s.coalescer, consumerReady := s.consumerReady, memoryReady := s.memoryReady, image := s.image,
    cfg := s.cfg }

theorem State.hostSide_eq_iff {s : State} {o : HostSide} : s.hostSide = o ↔
    s.coalescer = o.coalescer ∧ s.consumerReady = o.consumerReady ∧ s.memoryReady = o.memoryReady ∧
      s.image = o.image ∧ s.cfg = o.cfg := by
  cases o
  simp only [State.hostSide, HostSide.mk.injEq]

theorem hostSide_finishPass (s : State) : (finishPass s).hostSide = s.hostSide := by
  unfold finishPass
  split <;> rfl

theorem hostSide_releaseWalker (item : StreamItem) (s : State) : (releaseWalker item s).hostSide = s.hostSide := by
  cases item with
  | entry e => rfl
  | endOfPass t => exact hostSide_finishPass s

theorem hostSide_coalesceItem (item : StreamItem) (s : State) : (coalesceItem item s).hostSide = s.hostSide := by
  cases hv : s.cur.valid with
  | false => cases item with
    | entry e => rw [coalesceItem_first hv]; rfl
    | endOfPass t => rw [coalesceItem_endEmpty hv, hostSide_finishPass]; rfl
  | true => cases item with
    | entry e => cases hx : s.cur.extendedBy e with
      | true => rw [coalesceItem_extend hx]; rfl
      | false => rw [coalesceItem_flush hx hv]; rfl
    | endOfPass t => rw [coalesceItem_endFlush hv]; rfl

theorem hostSide_takeItem (item : StreamItem) (s : State) : (takeItem item s).hostSide = s.hostSide := by
  unfold takeItem
  split
  · exact hostSide_coalesceItem _ _
  · exact hostSide_releaseWalker _ _

theorem hostSide_finishFlush (item : StreamItem) (c : CacheLabel) (p : AccessLabel) (x : Bool) (s : State) :
    (finishFlush item c p x s).hostSide = s.hostSide := by
  cases item <;> exact hostSide_releaseWalker _ _

theorem hostSide_enterPassEnd (s : State) : (enterPassEnd s).hostSide = s.hostSide := rfl

theorem hostSide_startPass (s : State) : (startPass s).hostSide = s.hostSide := by
  unfold startPass
  split <;> rfl

theorem hostSide_routeGranule (s : State) : (routeGranule s).hostSide = s.hostSide := by
  unfold routeGranule
  split <;> rfl

theorem hostSide_fetchL1 (s : State) : (fetchL1 s).hostSide = s.hostSide := by
  unfold fetchL1
  split <;> rfl

theorem hostSide_fetchL2 (s : State) : (fetchL2 s).hostSide = s.hostSide := by
  unfold fetchL2
  split <;> rfl

theorem hostSide_advance (s : State) : (advance s).hostSide = s.hostSide := by
  by_cases h : s.va + granule = scanEnd
  · rw [advance_end h, hostSide_enterPassEnd]
    simp only [State.hostSide]
  · rw [advance_on h]
    simp only [State.hostSide]

theorem hostSide_whenReady (ready : Bool) {move : State → State} {s : State}
    (h : (move s).hostSide = s.hostSide) : (whenReady ready move s).hostSide = s.hostSide := by
  cases ready
  · rfl
  · exact h

theorem hostSide_offerStep {s t : State} (h : offerStep s = .next t) : t.hostSide = s.hostSide := by
  cases ho : offered s with
  | none => simp [offerStep, ho] at h
  | some item =>
    obtain rfl := Host.Outcome.next.inj ((offerStep_some ho).symm.trans h)
    exact hostSide_whenReady _ (hostSide_takeItem item s)

theorem ExecEffect.hostSide {s t : State} {i : Instr} (h : ExecEffect s i t) : t.hostSide = s.hostSide := by
  cases h with
  | skip | descend | malformed | map | ignoredStart | begin => rfl
  | label _ _ ht => rcases ht with ⟨a, rfl⟩ | ⟨-, -, f, rfl⟩ <;> rfl
  | refuse _ _ ht => rcases ht with ⟨a, rfl⟩ | ⟨-, -, e, rfl⟩ <;> rfl

/-- No word in any format writes the host's side. -/
theorem hostSide_run {e : Encoded} {s t : State} (h : (Action.run e s).outcome = .next t) :
    t.hostSide = s.hostSide := by
  cases hd : decode e with
  | error err =>
    simp only [Action.outcome, hd, Host.Outcome.next.injEq] at h
    rw [h]
  | ok i =>
    simp only [Action.outcome, hd] at h
    obtain ⟨t', ht', heff⟩ := exec_effect i s
    obtain rfl := Host.Outcome.next.inj (ht'.symm.trans h)
    exact heff.hostSide

/-- The walk state machine's move, in each of its states (R151). -/
theorem hostSide_walkAction {s t : State} (hf : s.flush = .idle) (h : (blockAction s).outcome = .next t) :
    t.hostSide = s.hostSide := by
  rw [blockAction_walk hf] at h
  cases hs : s.st <;> simp only [hs, Action.outcome_other] at h
  case l1Decode => exact hostSide_run h
  case l2Decode => exact hostSide_run h
  case emit => exact hostSide_offerStep h
  case passEnd => exact hostSide_offerStep h
  all_goals obtain rfl := Host.Outcome.next.inj h
  case passStart => exact hostSide_startPass s
  case route => exact hostSide_routeGranule s
  case l1Fetch => exact hostSide_whenReady _ (hostSide_fetchL1 s)
  case l2Fetch => exact hostSide_whenReady _ (hostSide_fetchL2 s)
  case advance => exact hostSide_advance s
  case idle | done | error => rfl

/-- Neither the walker nor the coalescer writes the host's side (R68, R71). -/
theorem hostSide_blockAction {s t : State} (h : (blockAction s).outcome = .next t) : t.hostSide = s.hostSide := by
  cases hf : s.flush with
  | idle => exact hostSide_walkAction hf h
  | texcb item => exact hostSide_run (blockAction_texcb hf ▸ h)
  | ap item c => exact hostSide_run (blockAction_ap hf ▸ h)
  | xn item c p => exact hostSide_run (blockAction_xn hf ▸ h)
  | emit item c p x =>
    rw [blockAction_emit hf] at h
    obtain rfl := Host.Outcome.next.inj h
    exact hostSide_whenReady _ (hostSide_finishFlush item c p x s)

/-- A step leaves the host's side alone unless the input it uses up changes it. -/
theorem step_hostSide_cases {s t : State} (h : step s = .next t) :
    t.hostSide = s.hostSide ∨
    (∃ b rest, s.hostActs (.consumer b) rest ∧ t.hostSide = { s.hostSide with consumerReady := b }) ∨
    (∃ b rest, s.hostActs (.memory b) rest ∧ t.hostSide = { s.hostSide with memoryReady := b }) ∨
    (∃ cells rest, s.hostActs (.loadImage cells) rest ∧ s.status.busy = false ∧
      t.hostSide = { s.hostSide with image := Memory.ofCells cells }) ∨
    (∃ rest, s.hostActs .reset rest ∧ t.hostSide = { s.hostSide with cfg := ConfigRegs.zero }) ∨
    (∃ reg v rest c, s.hostActs (.write reg v) rest ∧ reg ≤ 4 ∧ s.status.busy = false ∧
      t.hostSide = { s.hostSide with cfg := c }) := by
  rcases step_cases h with ⟨-, a, rfl⟩ | ⟨-, -, hb⟩ | ⟨-, rest, -, hb⟩ | ⟨-, i, rest, r', -, rfl⟩ |
    ⟨hd, reg, v, rest, c, hi, hreg, hbusy, rfl⟩ | ⟨-, v, rest, -, -, -, rfl⟩ | ⟨-, reg, rest, l, -, rfl⟩ |
    ⟨hd, rest, hi, rfl⟩ | ⟨hd, cells, rest, hi, hbusy, rfl⟩ | ⟨-, q, rest, -, rfl⟩ | ⟨hd, ready, rest, hi, rfl⟩ |
    ⟨hd, ready, rest, hi, rfl⟩
  case inl => exact .inl rfl
  · exact .inl (hostSide_blockAction hb)
  · exact .inl ((hostSide_blockAction hb).trans rfl)
  · exact .inl rfl
  · exact .inr (.inr (.inr (.inr (.inr ⟨reg, v, rest, c, ⟨hd, hi⟩, hreg, hbusy, rfl⟩))))
  · exact .inl rfl
  · exact .inl rfl
  · exact .inr (.inr (.inr (.inr (.inl ⟨rest, ⟨hd, hi⟩, rfl⟩))))
  · exact .inr (.inr (.inr (.inl ⟨cells, rest, ⟨hd, hi⟩, hbusy, rfl⟩)))
  · exact .inl rfl
  · exact .inr (.inl ⟨ready, rest, ⟨hd, hi⟩, rfl⟩)
  · exact .inr (.inr (.inl ⟨ready, rest, ⟨hd, hi⟩, rfl⟩))

/-- Settles O58, by what each input can do to the host's side. -/
theorem onlyTheHostChangesInputs : Obligations.OnlyTheHostChangesInputs := by
  intro s t h
  rcases step_hostSide_cases h with ho | ⟨b, rest, ha, ho⟩ | ⟨b, rest, ha, ho⟩ | ⟨cells, rest, ha, hbusy, ho⟩ |
    ⟨rest, ha, ho⟩ | ⟨reg, v, rest, c, ha, hreg, hbusy, ho⟩ <;>
    obtain ⟨hco, hcr, hmr, him, hcfg⟩ := State.hostSide_eq_iff.mp ho
  · exact ⟨hco, .inl hcr, .inl hmr, .inl fun k => congrArg (Memory.byte · k) him, .inl hcfg⟩
  · exact ⟨hco, .inr ⟨b, rest, ha⟩, .inl hmr, .inl fun k => congrArg (Memory.byte · k) him, .inl hcfg⟩
  · exact ⟨hco, .inl hcr, .inr ⟨b, rest, ha⟩, .inl fun k => congrArg (Memory.byte · k) him, .inl hcfg⟩
  · exact ⟨hco, .inl hcr, .inl hmr, .inr ⟨cells, rest, ha, hbusy⟩, .inl hcfg⟩
  · exact ⟨hco, .inl hcr, .inl hmr, .inl fun k => congrArg (Memory.byte · k) him, .inr (.inl ⟨rest, ha⟩)⟩
  · exact ⟨hco, .inl hcr, .inl hmr, .inl fun k => congrArg (Memory.byte · k) him,
      .inr (.inr ⟨reg, v, rest, ha, hreg, hbusy⟩)⟩

end Sys2Proof.Machine
end

section
/-! SUPPORT and PROOFS. Encoding (spec/30_encoding.md): decoder and encoder invert each other, every word lies in one row of
the opcode table, the ignored bits of a descriptor play no part, and the numbers of a Merged Range are exact. -/

namespace Sys2Proof.Machine

/-! ## From the instruction to the word and back (R94 to R101, R116) -/

/-- Settles O1, format by format: the encoder writes each field where the decoder reads it. -/
theorem decodeOfEncode : Obligations.DecodeOfEncode := decode_encode

/-! ## From the word to the instruction and back (R92 to R102) -/

/-- The instruction is well formed and stands for exactly this encoded word. -/
def StandsFor (i : Instr) (e : Encoded) : Prop := i.wf = true ∧ encode i = e

theorem sbz_eq_zero {z : BitVec 3} (h0 : z.getLsbD 0 = false) (h1 : z.getLsbD 1 = false) (h2 : z.getLsbD 2 = false) :
    z = 0 := by
  revert z
  decide

theorem type_three_of_ne {t : BitVec 2} (h0 : t ≠ 0) (h1 : t ≠ 1) (h2 : t ≠ 2) : t = 3 := by
  revert t
  decide

theorem standsFor_pageTable {d : Word} (h : d.extractLsb' 0 2 = 1) :
    StandsFor (decodePageTable (pageTableFieldsOf d)) (.l1 d) := by
  have hw : Encoded.l1 (pageTableWord (pageTableFieldsOf d)) = .l1 d := congrArg _ (pageTableWord_fieldsOf h)
  unfold decodePageTable
  split_ifs with h2 h3 h4
  · exact ⟨h2, hw⟩
  · exact ⟨by simp only [Instr.wf, h2, h3, Bool.not_false, Bool.and_true], hw⟩
  · exact ⟨by simp only [Instr.wf, h2, h3, h4, Bool.not_false, Bool.and_true], hw⟩
  · simp only [Bool.not_eq_true] at h2 h3 h4
    exact ⟨by simp only [Instr.wf, sbz_eq_zero h2 h3 h4, beq_self_eq_true], hw⟩

theorem standsFor_decodeL1 (d : Word) : StandsFor (decodeL1 d) (.l1 d) := by
  unfold decodeL1
  split_ifs with h0 h1 h2 h18
  · exact ⟨rfl, congrArg _ (restWord_fieldsOf h0)⟩
  · exact standsFor_pageTable h1
  · exact ⟨rfl, congrArg _ (supersectionWord_fieldsOf h2 h18)⟩
  · exact ⟨rfl, congrArg _ (sectionWord_fieldsOf h2 (by simpa only [Bool.not_eq_true] using h18))⟩
  · exact ⟨rfl, congrArg _ (restWord_fieldsOf (type_three_of_ne h0 h1 h2))⟩

theorem standsFor_decodeL2 (d : Word) : StandsFor (decodeL2 d) (.l2 d) := by
  unfold decodeL2
  split_ifs with h1 h0
  · exact ⟨rfl, congrArg _ (smallPageWord_fieldsOf h1)⟩
  · rw [Bool.not_eq_true] at h1
    exact ⟨rfl, congrArg _ (largePageWord_fieldsOf (type_one.mpr ⟨h0, h1⟩))⟩
  · rw [Bool.not_eq_true] at h0 h1
    exact ⟨rfl, congrArg _ (restWord_fieldsOf (type_zero.mpr ⟨h0, h1⟩))⟩

theorem standsFor_decodeAP3 (v : BitVec 3) : StandsFor (decodeAP3 v) (.ap v) := by
  unfold StandsFor
  revert v
  decide

theorem standsFor_decodeTEXCB5 (t : BitVec 5) : StandsFor (decodeTEXCB5 t) (.texcb t) := by
  unfold StandsFor
  revert t
  decide

theorem standsFor_decodeCACHE2 (c : BitVec 2) : StandsFor (decodeCACHE2 c) (.cache c) := by
  unfold StandsFor
  revert c
  decide

theorem standsFor_decodeXN1 (v : BitVec 1) : StandsFor (decodeXN1 v) (.xn v) := by
  unfold StandsFor
  revert v
  decide

/-- A command word is its bit 0 under its reserved bits (R27). -/
theorem ctrlWord_fieldsOf {w : Word} (h0 : w.getLsbD 0 = true) : (w.extractLsb' 1 31).setWidth 32 <<< 1 ||| 1#32 = w := by
  apply BitVec.eq_of_getLsbD_eq
  intro i hi
  interval_cases i <;> simp_all

theorem standsFor_decodeCTRL {w : Word} {i : Instr} (h : decodeCTRL w = .ok i) : StandsFor i (.ctrl w) := by
  unfold decodeCTRL at h
  split_ifs at h with h0
  obtain rfl := Except.ok.inj h
  exact ⟨rfl, congrArg _ (ctrlWord_fieldsOf h0)⟩

/-- Settles O2, format by format: no decoder drops a bit of its word. -/
theorem encodeOfDecode : Obligations.EncodeOfDecode := by
  intro e i h
  cases e with
  | l1 w => exact Except.ok.inj h ▸ standsFor_decodeL1 w
  | l2 w => exact Except.ok.inj h ▸ standsFor_decodeL2 w
  | ap v => exact Except.ok.inj h ▸ standsFor_decodeAP3 v
  | texcb v => exact Except.ok.inj h ▸ standsFor_decodeTEXCB5 v
  | cache v => exact Except.ok.inj h ▸ standsFor_decodeCACHE2 v
  | xn v => exact Except.ok.inj h ▸ standsFor_decodeXN1 v
  | ctrl w => exact standsFor_decodeCTRL h

/-- Settles O5, by running the decoder on each word. -/
theorem specWordsDecode : Obligations.SpecWordsDecode :=
  ⟨rfl, rfl, rfl, rfl, rfl, rfl, rfl, rfl, rfl, rfl, rfl, rfl⟩

/-! ## The rows of the opcode table (R91, R92, R98) -/

/-- An instruction of each row, in the table's order. -/
def rowSamples : List Instr :=
  [.l1Fault 0, .l1PageTable ⟨0, 0, 0, 0⟩, .l1PageTableMalformedBit2 ⟨0, 0, 0, 1⟩, .l1PageTableMalformedBit3 ⟨0, 0, 0, 2⟩,
   .l1PageTableMalformedBit4 ⟨0, 0, 0, 4⟩, .l1Section ⟨0, 0, 0, 0, 0, 0, 0, 0, 0⟩,
   .l1Supersection ⟨0, 0, 0, 0, 0, 0, 0, 0, 0, 0, 0⟩, .l1Reserved 0,
   .l2Fault 0, .l2LargePage ⟨0, 0, 0, 0, 0, 0, 0, 0⟩, .l2SmallPage ⟨0, 0, 0, 0, 0, 0, 0⟩,
   .ap000Reserved, .ap001, .ap010Reserved, .ap011, .ap100Reserved, .ap101, .ap110Reserved, .ap111Reserved,
   .texcbStronglyOrdered, .texcbDevice, .texcbCached 0 0, .texcbReserved02 2, .texcbReserved04 4, .texcbReserved08 8,
   .cache00, .cache01, .cache10, .cache11, .xn0, .xn1, .start 0]

/-- The opcode table (spec/opcode_table.json). -/
def opcodeTable : List Row := rowSamples.map Instr.row

theorem row_mem_opcodeTable (i : Instr) : i.row ∈ opcodeTable := by
  cases i <;> simp [opcodeTable, rowSamples, Instr.row]

/-- No word can be in both rows: the formats differ, or the patterns differ in a bit that both masks cover. -/
def RowsDisjoint (r r' : Row) : Prop := r.format ≠ r'.format ∨ r.pattern &&& r'.mask ≠ r'.pattern &&& r.mask

theorem rowsDisjoint_symm : Std.Symm RowsDisjoint := ⟨fun _ _ h => h.imp Ne.symm Ne.symm⟩

/-- A word's bits under the one mask and then the other do not depend on the order. -/
theorem RowsDisjoint.not_accepts {r r' : Row} {e : Encoded} (h : RowsDisjoint r r') (hr : r.accepts e = true) :
    r'.accepts e ≠ true := by
  intro hr'
  obtain ⟨hf, hp⟩ := (Laws.accepts_iff r e).mp hr
  obtain ⟨hf', hp'⟩ := (Laws.accepts_iff r' e).mp hr'
  rcases h with h | h
  · exact h (hf.trans hf'.symm)
  · refine h ?_
    rw [← hp, ← hp', BitVec.and_assoc, BitVec.and_assoc, BitVec.and_comm r.mask]

theorem opcodeTable_pairwise_disjoint : opcodeTable.Pairwise RowsDisjoint := by
  unfold RowsDisjoint
  decide

/-- An encoded word is in at most one row. -/
theorem row_unique {i j : Instr} {e : Encoded} (hi : i.row.accepts e = true) (hj : j.row.accepts e = true) :
    j.row = i.row := by
  by_contra hne
  have := rowsDisjoint_symm
  have hd := opcodeTable_pairwise_disjoint.forall (row_mem_opcodeTable j) (row_mem_opcodeTable i) hne
  exact hd.not_accepts hj hi

open Laws in
/-- A well-formed instruction encodes to a word of its row: the lemmas of RowMatch together. -/
theorem accepts_encode (i : Instr) : RowMatch.Statement i :=
  match i with
  | .l1Fault rest => RowMatch.l1Fault rest
  | .l1PageTable f => RowMatch.l1PageTable f
  | .l1PageTableMalformedBit2 f => RowMatch.l1PageTableMalformedBit2 f
  | .l1PageTableMalformedBit3 f => RowMatch.l1PageTableMalformedBit3 f
  | .l1PageTableMalformedBit4 f => RowMatch.l1PageTableMalformedBit4 f
  | .l1Section f => RowMatch.l1Section f
  | .l1Supersection f => RowMatch.l1Supersection f
  | .l1Reserved rest => RowMatch.l1Reserved rest
  | .l2Fault rest => RowMatch.l2Fault rest
  | .l2LargePage f => RowMatch.l2LargePage f
  | .l2SmallPage f => RowMatch.l2SmallPage f
  | .ap000Reserved => RowMatch.ap000Reserved
  | .ap001 => RowMatch.ap001
  | .ap010Reserved => RowMatch.ap010Reserved
  | .ap011 => RowMatch.ap011
  | .ap100Reserved => RowMatch.ap100Reserved
  | .ap101 => RowMatch.ap101
  | .ap110Reserved => RowMatch.ap110Reserved
  | .ap111Reserved => RowMatch.ap111Reserved
  | .texcbStronglyOrdered => RowMatch.texcbStronglyOrdered
  | .texcbDevice => RowMatch.texcbDevice
  | .texcbCached outer inner => RowMatch.texcbCached outer inner
  | .texcbReserved02 t => RowMatch.texcbReserved02 t
  | .texcbReserved04 t => RowMatch.texcbReserved04 t
  | .texcbReserved08 t => RowMatch.texcbReserved08 t
  | .cache00 => RowMatch.cache00
  | .cache01 => RowMatch.cache01
  | .cache10 => RowMatch.cache10
  | .cache11 => RowMatch.cache11
  | .xn0 => RowMatch.xn0
  | .xn1 => RowMatch.xn1
  | .start reserved => RowMatch.start reserved

/-- Outside the CTRL format every word decodes (R91, R98, R105 to R108). -/
theorem decode_total {e : Encoded} (h : e.format ≠ .CTRL) : ∃ i, decode e = .ok i := by
  cases e with
  | l1 | l2 | ap | texcb | cache | xn => exact ⟨_, rfl⟩
  | ctrl => exact absurd rfl h

/-- Settles O4: what is decoded encodes to the word, which so lies in the row of the instruction, and the rows of the table
are disjoint. -/
theorem oneRowPerWord : Obligations.OneRowPerWord := by
  refine ⟨fun _ => decode_total, fun e i h => ?_⟩
  obtain ⟨hwf, rfl⟩ := encodeOfDecode e i h
  exact ⟨accepts_encode i hwf, fun _ => row_unique (accepts_encode i hwf)⟩

/-! ## Words that agree under a mask -/

theorem extractLsb'_congr {d d' k : Word} (h : d' &&& k = d &&& k) {i n : Nat}
    (hk : k.extractLsb' i n = BitVec.allOnes n) : d'.extractLsb' i n = d.extractLsb' i n := by
  have hf := congrArg (BitVec.extractLsb' i n) h
  simpa only [BitVec.extractLsb'_and, hk, BitVec.and_allOnes] using hf

theorem getLsbD_congr {d d' k : Word} (h : d' &&& k = d &&& k) {i : Nat} (hk : k.getLsbD i = true) :
    d'.getLsbD i = d.getLsbD i := by
  have hb := congrArg (BitVec.getLsbD · i) h
  simpa only [BitVec.getLsbD_and, hk, Bool.and_true] using hb

theorem and_congr_of_covered {d d' k f : Word} (h : d' &&& k = d &&& k) (hk : k &&& f = f) : d' &&& f = d &&& f := by
  rw [← hk, ← BitVec.and_assoc, ← BitVec.and_assoc, h]

theorem xor_and_of_ignored (d : Word) {m k : Word} (h : m &&& k = 0) : (d ^^^ m) &&& k = d &&& k := by
  apply BitVec.eq_of_getLsbD_eq
  intro i _
  have hb : (m.getLsbD i && k.getLsbD i) = false := by
    rw [← BitVec.getLsbD_and, h]
    exact BitVec.getLsbD_zero
  rw [BitVec.getLsbD_and, BitVec.getLsbD_and, BitVec.getLsbD_xor, Bool.and_xor_distrib_right, hb, Bool.xor_false]

/-! ## What each class of descriptor does (R170 to R175, R190 to R192) -/

theorem exec_decodeL1_skip {d : Word} (h : d.extractLsb' 0 2 = 0 ∨ d.extractLsb' 0 2 = 3) (s : State) :
    exec (decodeL1 d) s = .next (skipGranule s) := by
  rw [exec_decodeL1, if_pos h]

theorem exec_decodeL1_descend {d : Word} (h : d.extractLsb' 0 2 = 1) (hz : d.extractLsb' 1 4 = 0) (s : State) :
    exec (decodeL1 d) s = .next { s with dom := d.extractLsb' 5 4, st := .l2Fetch } := by
  rw [exec_decodeL1, if_neg (by rw [h]; decide), if_pos h, if_neg (not_not.mpr hz)]

theorem exec_decodeL1_section {d : Word} (h : d.extractLsb' 0 2 = 2) (h18 : d.getLsbD 18 = false) (s : State) :
    exec (decodeL1 d) s = .next (emitEntry
      ⟨va32 s.va, BigStep.paSec d (va32 s.va), BigStep.apSec d, BigStep.texcbSec d, BigStep.xnSec d⟩ s) := by
  rw [exec_decodeL1, if_neg (by rw [h]; decide), if_neg (by rw [h]; decide), if_neg (by rw [h18]; decide)]

theorem exec_decodeL1_supersection {d : Word} (h : d.extractLsb' 0 2 = 2) (h18 : d.getLsbD 18 = true) (s : State) :
    exec (decodeL1 d) s = .next (emitEntry
      ⟨va32 s.va, BigStep.paSsec d (va32 s.va), BigStep.apSec d, BigStep.texcbSec d, BigStep.xnSec d⟩ s) := by
  rw [exec_decodeL1, if_neg (by rw [h]; decide), if_neg (by rw [h]; decide), if_pos h18]

theorem exec_decodeL2_skip {d : Word} (h : d.extractLsb' 0 2 = 0) (s : State) :
    exec (decodeL2 d) s = .next (skipGranule s) := by
  rw [exec_decodeL2, if_pos h]

theorem exec_decodeL2_large {d : Word} (h : d.extractLsb' 0 2 = 1) (s : State) :
    exec (decodeL2 d) s = .next (emitEntry
      ⟨va32 s.va, BigStep.paLargeWord d (va32 s.va), BigStep.apL2 d, BigStep.texcbLarge d, BigStep.xnLarge d⟩ s) := by
  rw [exec_decodeL2, if_neg (by rw [h]; decide), if_pos h]

theorem exec_decodeL2_small {d : Word} (h1 : d.getLsbD 1 = true) (s : State) :
    exec (decodeL2 d) s = .next (emitEntry
      ⟨va32 s.va, BigStep.paSmallWord d (va32 s.va), BigStep.apL2 d, BigStep.texcbSmall d, BigStep.xnSmall d⟩ s) := by
  have h0 : d.extractLsb' 0 2 ≠ 0 := fun h => absurd h1 (ne_true_of_eq_false (type_zero.mp h).2)
  have h1' : d.extractLsb' 0 2 ≠ 1 := fun h => absurd h1 (ne_true_of_eq_false (type_one.mp h).2)
  rw [exec_decodeL2, if_neg h0, if_neg h1']

/-! ## Ignored bits (R93 to R97, R99 to R102): the masks cover the type and every field a meaning takes -/

section
variable {d d' : Word}

theorem exec_skipL1_congr (h : d' &&& 0x00000003 = d &&& 0x00000003)
    (ht : d.extractLsb' 0 2 = 0 ∨ d.extractLsb' 0 2 = 3) (s : State) :
    exec (decodeL1 d') s = exec (decodeL1 d) s := by
  have ht' := extractLsb'_congr h (i := 0) (n := 2) (by decide)
  rw [exec_decodeL1_skip ht, exec_decodeL1_skip (by rwa [ht'])]

theorem exec_pageTable_congr (h : d' &&& 0xFFFFFDFF = d &&& 0xFFFFFDFF) (ht : d.extractLsb' 0 2 = 1)
    (hz : d.extractLsb' 1 4 = 0) (s : State) : exec (decodeL1 d') s = exec (decodeL1 d) s := by
  have ht' := (extractLsb'_congr h (by decide)).trans ht
  have hz' := (extractLsb'_congr h (by decide)).trans hz
  rw [exec_decodeL1_descend ht hz, exec_decodeL1_descend ht' hz', extractLsb'_congr h (by decide)]

theorem exec_section_congr (h : d' &&& 0xFFF4FC1F = d &&& 0xFFF4FC1F) (ht : d.extractLsb' 0 2 = 2)
    (h18 : d.getLsbD 18 = false) (s : State) : exec (decodeL1 d') s = exec (decodeL1 d) s := by
  have ht' := (extractLsb'_congr h (by decide)).trans ht
  have h18' := (getLsbD_congr h (by decide)).trans h18
  rw [exec_decodeL1_section ht h18, exec_decodeL1_section ht' h18']
  simp (disch := decide) only [BigStep.paSec, BigStep.apSec, BigStep.texcbSec, BigStep.xnSec, extractLsb'_congr h,
    and_congr_of_covered h]

theorem exec_supersection_congr (h : d' &&& 0xFFF4FDFF = d &&& 0xFFF4FDFF) (ht : d.extractLsb' 0 2 = 2)
    (h18 : d.getLsbD 18 = true) (s : State) : exec (decodeL1 d') s = exec (decodeL1 d) s := by
  have ht' := (extractLsb'_congr h (by decide)).trans ht
  have h18' := (getLsbD_congr h (by decide)).trans h18
  rw [exec_decodeL1_supersection ht h18, exec_decodeL1_supersection ht' h18']
  simp (disch := decide) only [BigStep.paSsec, BigStep.apSec, BigStep.texcbSec, BigStep.xnSec, extractLsb'_congr h,
    and_congr_of_covered h]

theorem exec_skipL2_congr (h : d' &&& 0x00000003 = d &&& 0x00000003) (ht : d.extractLsb' 0 2 = 0) (s : State) :
    exec (decodeL2 d') s = exec (decodeL2 d) s := by
  have ht' := (extractLsb'_congr h (by decide)).trans ht
  rw [exec_decodeL2_skip ht, exec_decodeL2_skip ht']

theorem exec_largePage_congr (h : d' &&& 0xFFFFF23F = d &&& 0xFFFFF23F) (ht : d.extractLsb' 0 2 = 1) (s : State) :
    exec (decodeL2 d') s = exec (decodeL2 d) s := by
  have ht' := (extractLsb'_congr h (by decide)).trans ht
  rw [exec_decodeL2_large ht, exec_decodeL2_large ht']
  simp (disch := decide) only [BigStep.paLargeWord, BigStep.apL2, BigStep.texcbLarge, BigStep.xnLarge, extractLsb'_congr h,
    and_congr_of_covered h]

theorem exec_smallPage_congr (h : d' &&& 0xFFFFF3FF = d &&& 0xFFFFF3FF) (h1 : d.getLsbD 1 = true) (s : State) :
    exec (decodeL2 d') s = exec (decodeL2 d) s := by
  have h1' := (getLsbD_congr h (by decide)).trans h1
  rw [exec_decodeL2_small h1, exec_decodeL2_small h1']
  simp (disch := decide) only [BigStep.paSmallWord, BigStep.apL2, BigStep.texcbSmall, BigStep.xnSmall, extractLsb'_congr h,
    and_congr_of_covered h]

/-- The second-level address takes TABLE_BASE alone from the word (R142). -/
theorem l2AddrNow_congr (h : d' &&& 0xFFFFFDFF = d &&& 0xFFFFFDFF) (s : State) :
    l2AddrNow { s with l1d := d' } = l2AddrNow { s with l1d := d } := by
  simp (disch := decide) only [l2AddrNow, l2Addr_of_word, BigStep.l2AddrWord, and_congr_of_covered h]

end

/-- Settles O6, class by class: the two words agree in the type and in every field the meaning takes. -/
theorem ignoredBitsHaveNoEffect : Obligations.IgnoredBitsHaveNoEffect := by
  refine ⟨fun d m s h => ?_, fun d m s h => ?_, fun d m s h => l2AddrNow_congr (xor_and_of_ignored d h) s⟩
  · rcases h with ⟨ht, hm⟩ | ⟨ht, hz, hm⟩ | ⟨ht, h18, hm⟩ | ⟨ht, h18, hm⟩
    · exact exec_skipL1_congr (xor_and_of_ignored d hm) ht s
    · exact exec_pageTable_congr (xor_and_of_ignored d hm) ht hz s
    · exact exec_section_congr (xor_and_of_ignored d hm) ht h18 s
    · exact exec_supersection_congr (xor_and_of_ignored d hm) ht h18 s
  · rcases h with ⟨ht, hm⟩ | ⟨ht, hm⟩ | ⟨h1, hm⟩
    · exact exec_skipL2_congr (xor_and_of_ignored d hm) ht s
    · exact exec_largePage_congr (xor_and_of_ignored d hm) ht s
    · exact exec_smallPage_congr (xor_and_of_ignored d hm) h1 s

/-! ## The numbers of a Merged Range (R112, R231, R235) -/

/-- The offset is the exact signed difference: 41 bits hold it (R231). -/
theorem toInt_offsetOf (e : MappingEntry) :
    (offsetOf e).toInt = (e.physicalAddress.toNat : Int) - (e.virtualAddress.toNat : Int) := by
  have hp := e.physicalAddress.isLt
  have hv := e.virtualAddress.isLt
  rw [offsetOf, BitVec.toInt_sub, BitVec.toInt_setWidth, BitVec.toInt_setWidth]
  simp only [Int.bmod]
  omega

/-- Virtual start plus offset is the physical start, with no wrap in 41 bits. -/
theorem virtual_add_offsetOf (e : MappingEntry) :
    e.virtualAddress.setWidth 41 + offsetOf e = e.physicalAddress.setWidth 41 := by
  rw [offsetOf, BitVec.add_comm, BitVec.sub_add_cancel]

/-- An n-bit number and one of at most 2^n add up without wrap in any wider word. -/
theorem toNat_setWidth_add {n k m : Nat} {a : BitVec n} {b : BitVec k} (hn : n < m) (hk : k ≤ m)
    (h : b.toNat ≤ 2 ^ n) : (a.setWidth m + b.setWidth m).toNat = a.toNat + b.toNat := by
  have ha := a.isLt
  have hm : 2 ^ n * 2 ≤ 2 ^ m := by
    rw [← pow_succ]
    exact Nat.pow_le_pow_right (by decide) hn
  rw [BitVec.toNat_add, BitVec.toNat_setWidth_of_le hn.le, BitVec.toNat_setWidth_of_le hk, Nat.mod_eq_of_lt (by omega)]

/-- Settles O34: both exclusive ends fit their width, and start plus offset gives the physical start back. -/
theorem mergedRangeArithmetic : Obligations.MergedRangeArithmetic := by
  intro e size c p x hsize
  simp only [Accumulator.merged, Accumulator.startedBy_vstart, Accumulator.startedBy_off, virtual_add_offsetOf]
  refine ⟨trivial, ?_, ?_, ?_, toInt_offsetOf e⟩
  · have h := toNat_setWidth_add (a := e.virtualAddress) (b := size) (m := 33) (by decide) (by decide) hsize
    rwa [BitVec.setWidth_eq] at h
  · exact BitVec.setWidth_setWidth_of_le _ (by decide)
  · exact toNat_setWidth_add (by decide) (by decide) (hsize.trans (by decide))

/-! ## The step (R90) -/

/-- Settles O50: a step does what its action says, and the action names the word. -/
theorem stepRunsDecodedInstruction : Obligations.StepRunsDecodedInstruction := by
  intro s s' e i ha hd
  simp only [step_eq_outcome, ha, Action.outcome, hd]

end Sys2Proof.Machine
end

section
/-! SUPPORT and PROOFS. The walker, state by state (spec/40_table_walker.md): which word a move runs, START, and what the
move in each state of R151 does. -/

namespace Sys2Proof.Machine

/-! ## Which word a move runs -/

/-- The move that R151 gives each state of the walk state machine. -/
def walkMove (s : State) : WalkState → Host.Outcome State Fault Refusal
  | .idle | .done | .error => .next s
  | .passStart => .next (startPass s)
  | .route => .next (routeGranule s)
  | .l1Fetch => .next (whenReady s.memoryReady fetchL1 s)
  | .l1Decode => exec (decodeL1 s.l1d) s
  | .l2Fetch => .next (whenReady s.memoryReady fetchL2 s)
  | .l2Decode => exec (decodeL2 s.l2d) s
  | .emit | .passEnd => offerStep s
  | .advance => .next (advance s)

theorem outcome_blockAction_walk {s : State} (hf : s.flush = .idle) :
    (blockAction s).outcome = walkMove s s.st := by
  rw [blockAction_walk hf]
  cases s.st <;> rfl

theorem step_turn {s : State} {w : WalkState} (h : s.turn w) : step s = walkMove s w := by
  obtain ⟨hq, hf, rfl⟩ := h
  rw [step_quiet hq, outcome_blockAction_walk hf]

theorem step_flush_texcb {s : State} (hq : s.quiet) {item : StreamItem} (hf : s.flush = .texcb item) :
    step s = exec (decodeTEXCB5 s.cur.texcb) s := by
  rw [step_quiet hq, blockAction_texcb hf, Action.outcome_texcb]

theorem step_flush_ap {s : State} (hq : s.quiet) {item : StreamItem} {c : CacheLabel} (hf : s.flush = .ap item c) :
    step s = exec (decodeAP3 s.cur.ap) s := by
  rw [step_quiet hq, blockAction_ap hf, Action.outcome_ap]

theorem step_flush_xn {s : State} (hq : s.quiet) {item : StreamItem} {c : CacheLabel} {p : AccessLabel}
    (hf : s.flush = .xn item c p) : step s = exec (decodeXN1 s.cur.xn) s := by
  rw [step_quiet hq, blockAction_xn hf, Action.outcome_xn]

/-- Settles O51: the action of each situation names the word. -/
theorem stepTakesTheRightWord : Obligations.StepTakesTheRightWord := by
  intro s
  refine ⟨step_turn, step_turn, fun hq _ => step_flush_texcb hq, fun hq _ _ => step_flush_ap hq,
    fun hq _ _ _ => step_flush_xn hq, fun q i hd hi => ?_, fun w i rest h hi => ?_⟩
  · exact stepRunsDecodedInstruction s s _ i (nextAction_direct hd) hi
  · exact stepRunsDecodedInstruction s _ _ i (nextAction_input h.1 h.2) hi

/-! ## START and the start of a pass (R130, R132) -/

theorem exec_start_accepted {s : State} (r : BitVec 31) (hb : s.status.busy = false) (he : s.status.err = false) :
    exec (.start r) s = .next (beginWalk s) := by
  simp [hb, he]

theorem exec_start_ignored {s : State} (r : BitVec 31) (h : s.status.busy = true ∨ s.status.err = true) :
    exec (.start r) s = .next s := by
  simp [h]

/-- Settles O23: START is accepted or ignored, by BUSY and ERR alone. -/
theorem startCommand : Obligations.StartCommand :=
  fun _ r => ⟨exec_start_accepted r, exec_start_ignored r⟩

/-- Settles O25: an absent root ends the pass at once. -/
theorem passStartStep : Obligations.PassStartStep := by
  intro s h
  rw [step_turn h]
  exact ⟨fun hr => congrArg _ (startPass_absent hr), fun hr => congrArg _ (startPass_present hr)⟩

/-! ## Routing and the scan (R133, R136) -/

theorem route_eq_zero_iff (va : Wide) : route va = 0 ↔ va.toNat < 0x02000000 := by
  have hbit : ∀ r : BitVec 1, r = 0 ↔ r ≠ 1 := by decide
  rw [hbit, ne_eq, route_eq_one_iff, not_le]

/-- Settles O26: the split is at bit 25 of the granule address. -/
theorem routeStep : Obligations.RouteStep := by
  intro s h
  rw [step_turn h]
  constructor
  · rintro (⟨hva, ht⟩ | ⟨hva, ht⟩)
    · exact congrArg _ (routeGranule_in (((route_eq_one_iff s.va).mpr hva).trans ht.symm))
    · exact congrArg _ (routeGranule_in (((route_eq_zero_iff s.va).mpr hva).trans ht.symm))
  · rintro (⟨hva, ht⟩ | ⟨hva, ht⟩)
    · exact congrArg _ (routeGranule_out (by rw [(route_eq_one_iff s.va).mpr hva, ht]; decide))
    · exact congrArg _ (routeGranule_out (by rw [(route_eq_zero_iff s.va).mpr hva, ht]; decide))

/-! ## The fetches (R138, R139, R142, R143) -/

theorem l1Addr_root (s : State) : l1Addr s.tbl (s.snap.root s.tbl) (va32 s.va) =
    ((if s.tbl = 0 then s.snap.ttbr0 &&& 0xFFFFFF80 else s.snap.ttbr1 &&& 0xFFFFC000)
      ||| ((va32 s.va >>> 18) &&& 0x3FFC)) := by
  unfold l1Addr ConfigRegs.root l1Mask l1IndexMask
  split_ifs <;> rfl

theorem l2AddrNow_word (s : State) : l2AddrNow s = (s.l1d &&& 0xFFFFFC00) ||| ((va32 s.va >>> 10) &&& 0x3FC) :=
  l2Addr_of_word s.l1d (va32 s.va)

/-- Settles O27: the word, or the fatal transition at level 0. -/
theorem firstLevelFetchStep : Obligations.FirstLevelFetchStep := by
  rintro s _ h hm rfl
  have ⟨_, hf, _⟩ := h
  have hstep : step s = .next (fetchL1 s) := (step_turn h).trans (by rw [walkMove, hm, whenReady_true])
  rw [hstep, ← l1Addr_root]
  refine ⟨fun w hw => congrArg _ (fetchL1_inside hw), fun hn => ?_⟩
  rw [fetchL1_outside hn, raise, ← hf]
  rfl

/-- Settles O28: the word, or the fatal transition at level 1. -/
theorem secondLevelFetchStep : Obligations.SecondLevelFetchStep := by
  rintro s _ h hm rfl
  have ⟨_, hf, _⟩ := h
  have hstep : step s = .next (fetchL2 s) := (step_turn h).trans (by rw [walkMove, hm, whenReady_true])
  rw [hstep, ← l2AddrNow_word]
  refine ⟨fun w hw => congrArg _ (fetchL2_inside hw), fun hn => ?_⟩
  rw [fetchL2_outside hn, raise, ← hf]
  rfl

/-! ## Items taken without a flush (R147, R149, R150) -/

theorem Accumulator.emptied_of_invalid {c : Accumulator} (h : c.valid = false) : c.emptied = c := by
  rw [Accumulator.emptied, ← h]

/-- Without a range in the accumulator the end of a pass finishes it, with the coalescer or without. -/
theorem takeItem_end {s : State} {t : BitVec 1} (hv : s.cur.valid = false) : takeItem (.endOfPass t) s =
    finishPass { s with entKind := .none, items := s.items ++ [.endOfPass t] } := by
  by_cases hc : s.coalescer = true
  · rw [takeItem_present _ hc, coalesceItem_endEmpty (by exact hv), Accumulator.emptied_of_invalid (by exact hv)]
  · exact takeItem_absent _ (by simpa using hc)

theorem step_passEnd {s : State} (h : s.turn .passEnd) (hk : s.entKind = .endOfPass)
    (hc : s.coalescer = true ∨ s.consumerReady = true) (hv : s.cur.valid = false) : step s =
    .next (finishPass { s with entKind := .none, items := s.items ++ [.endOfPass s.entTbl] }) := by
  have htakes : consumerTakes s = true := by simpa [consumerTakes] using hc
  rw [step_turn h]
  exact (offerStep_taken (offered_end hk) htakes).trans (congrArg _ (takeItem_end hv))

/-- Settles O30: the item is recorded and the walker leaves EMIT or PASS_END. -/
theorem itemTakenWithoutFlush : Obligations.ItemTakenWithoutFlush := by
  refine fun s => ⟨fun h hk hc hr => ?_, fun h hk hc hv ht => ?_, fun h hk hc hv ht => ?_⟩
  · rw [step_turn h]
    exact (offerStep_taken (offered_entry hk) ((consumerTakes_absent hc).trans hr)).trans
      (congrArg _ (takeItem_absent _ hc))
  · rw [step_passEnd h hk hc hv, finishPass_first (by exact ht)]
    rfl
  · rw [step_passEnd h hk hc hv, finishPass_second (by exact ht ▸ by decide)]
    rfl

/-! ## What a move of the block can do (R151) -/

/-- Everything a transition of the block can do: one case per operation it calls. -/
inductive BlockEffect (s : State) : State → Prop
  | stay : BlockEffect s s
  | startPass (hs : s.st = .passStart) : BlockEffect s (startPass s)
  | route : BlockEffect s (routeGranule s)
  | fetchL1 : BlockEffect s (fetchL1 s)
  | fetchL2 : BlockEffect s (fetchL2 s)
  | exec {i : Instr} {t : State} (h : ExecEffect s i t) : BlockEffect s t
  | advance (hs : s.st = .advance) : BlockEffect s (advance s)
  | take (item : StreamItem) : BlockEffect s (takeItem item s)
  | emitRange (item : StreamItem) (c : CacheLabel) (p : AccessLabel) (x : Bool) :
      BlockEffect s (finishFlush item c p x s)

theorem blockEffect_exec {s t : State} {i : Instr} (h : exec i s = .next t) : BlockEffect s t := by
  obtain ⟨t', ht', heff⟩ := exec_effect i s
  obtain rfl := Host.Outcome.next.inj (ht'.symm.trans h)
  exact .exec heff

theorem blockEffect_whenReady {s : State} (ready : Bool) {move : State → State} (h : BlockEffect s (move s)) :
    BlockEffect s (whenReady ready move s) := by
  cases ready
  · exact .stay
  · exact h

theorem blockEffect_offerStep {s t : State} (h : offerStep s = .next t) : BlockEffect s t := by
  cases ho : offered s with
  | none => simp [offerStep, ho] at h
  | some item =>
    obtain rfl := Host.Outcome.next.inj ((offerStep_some ho).symm.trans h)
    exact blockEffect_whenReady _ (.take item)

theorem blockEffect_walkMove {s t : State} (h : walkMove s s.st = .next t) : BlockEffect s t := by
  cases hs : s.st <;> simp only [hs, walkMove] at h
  case l1Decode | l2Decode => exact blockEffect_exec h
  case emit | passEnd => exact blockEffect_offerStep h
  all_goals obtain rfl := Host.Outcome.next.inj h
  case passStart => exact .startPass hs
  case route => exact .route
  case l1Fetch => exact blockEffect_whenReady _ .fetchL1
  case l2Fetch => exact blockEffect_whenReady _ .fetchL2
  case advance => exact .advance hs
  case idle | done | error => exact .stay

theorem blockEffect {s t : State} (h : (blockAction s).outcome = .next t) : BlockEffect s t := by
  cases hf : s.flush with
  | idle => exact blockEffect_walkMove ((outcome_blockAction_walk hf).symm.trans h)
  | texcb item => exact blockEffect_exec (blockAction_texcb hf ▸ h)
  | ap item c => exact blockEffect_exec (blockAction_ap hf ▸ h)
  | xn item c p => exact blockEffect_exec (blockAction_xn hf ▸ h)
  | emit item c p x =>
    rw [blockAction_emit hf] at h
    obtain rfl := Host.Outcome.next.inj h
    exact blockEffect_whenReady _ (.emitRange item c p x)

/-! ## How far a walk has come: the scan counter and what was delivered -/

/-- The scan counter, the items taken and the ranges emitted. -/
def State.progress (s : State) : Wide × List StreamItem × List MergedRange := (s.va, s.items, s.ranges)

theorem progress_routeGranule (s : State) : (routeGranule s).progress = s.progress := by
  unfold routeGranule
  split <;> rfl

theorem progress_fetchL1 (s : State) : (fetchL1 s).progress = s.progress := by
  unfold fetchL1
  split <;> rfl

theorem progress_fetchL2 (s : State) : (fetchL2 s).progress = s.progress := by
  unfold fetchL2
  split <;> rfl

theorem ExecEffect.progress {s t : State} {i : Instr} (h : ExecEffect s i t) : t.progress = s.progress := by
  cases h with
  | skip | descend | malformed | map | ignoredStart | begin => rfl
  | label _ _ ht => rcases ht with ⟨a, rfl⟩ | ⟨-, -, f, rfl⟩ <;> rfl
  | refuse _ _ ht => rcases ht with ⟨a, rfl⟩ | ⟨-, -, e, rfl⟩ <;> rfl

theorem progress_finishPass (s : State) : (finishPass s).progress = s.progress := by
  unfold finishPass
  split <;> rfl

theorem progress_releaseWalker (item : StreamItem) (s : State) : (releaseWalker item s).progress = s.progress := by
  cases item with
  | entry e => rfl
  | endOfPass t => exact progress_finishPass s

theorem progress_coalesceItem (item : StreamItem) (s : State) : (coalesceItem item s).progress = s.progress := by
  cases hv : s.cur.valid with
  | false => cases item with
    | entry e => rw [coalesceItem_first hv]; rfl
    | endOfPass t => rw [coalesceItem_endEmpty hv, progress_finishPass]; rfl
  | true => cases item with
    | entry e => cases hx : s.cur.extendedBy e with
      | true => rw [coalesceItem_extend hx]; rfl
      | false => rw [coalesceItem_flush hx hv]; rfl
    | endOfPass t => rw [coalesceItem_endFlush hv]; rfl

theorem progress_takeItem (item : StreamItem) (s : State) :
    (takeItem item s).progress = (s.va, s.items ++ [item], s.ranges) := by
  unfold takeItem
  split
  · exact progress_coalesceItem _ _
  · exact progress_releaseWalker _ _

theorem progress_finishFlush (item : StreamItem) (c : CacheLabel) (p : AccessLabel) (x : Bool) (s : State) :
    (finishFlush item c p x s).progress = (s.va, s.items, s.ranges ++ [s.cur.merged c p x]) := by
  cases item <;> exact progress_releaseWalker _ _

/-- Only the start of a pass and ADVANCE move the scan counter (R33). -/
theorem BlockEffect.va {s t : State} (h : BlockEffect s t) (ha : s.st ≠ .advance) (hp : s.st ≠ .passStart) :
    t.va = s.va := by
  cases h with
  | stay => rfl
  | startPass hs => exact absurd hs hp
  | route => exact congrArg Prod.fst (progress_routeGranule s)
  | fetchL1 => exact congrArg Prod.fst (progress_fetchL1 s)
  | fetchL2 => exact congrArg Prod.fst (progress_fetchL2 s)
  | exec h => exact congrArg Prod.fst h.progress
  | advance hs => exact absurd hs ha
  | take item => exact congrArg Prod.fst (progress_takeItem item s)
  | emitRange item c p x => exact congrArg Prod.fst (progress_finishFlush item c p x s)

/-- The end of the pass, in exact arithmetic (R33, R136). -/
theorem add_granule_eq_scanEnd_iff {va : Wide} (h : va.toNat < 0x100000000) :
    va + granule = scanEnd ↔ va.toNat + 1024 = 0x100000000 := by
  rw [← BitVec.toNat_inj, toNat_add_granule h]
  rfl

/-- Settles O29: the counter rises by one granule below 2^32, and the other moves leave it. -/
theorem advanceStep : Obligations.AdvanceStep := by
  refine ⟨fun s h hle => ⟨s.va + granule, toNat_add_granule (by omega), ?_⟩, fun s t hq ha hp ht => ?_⟩
  · rw [step_turn h, walkMove]
    have hiff := add_granule_eq_scanEnd_iff (va := s.va) (by omega)
    split_ifs with he
    · rw [advance_end (hiff.mpr he), enterPassEnd]
    · rw [advance_on (mt hiff.mp he)]
  · rw [step_quiet hq] at ht
    exact (blockEffect ht).va ha hp

/-! ## What was delivered (R148) -/

/-- At most one item or one range was added to what was delivered, and nothing was taken back. -/
def Appends (s t : State) : Prop :=
  ∃ (l : List StreamItem) (r : List MergedRange),
    t.items = s.items ++ l ∧ t.ranges = s.ranges ++ r ∧ l.length + r.length ≤ 1

theorem appends_of_eq {s t : State} (hi : t.items = s.items) (hr : t.ranges = s.ranges) : Appends s t :=
  ⟨[], [], by rw [hi, List.append_nil], by rw [hr, List.append_nil], Nat.zero_le 1⟩

theorem appends_of_progress {s t : State} (h : t.progress = s.progress) : Appends s t := by
  obtain ⟨-, hi, hr⟩ : t.va = s.va ∧ t.items = s.items ∧ t.ranges = s.ranges := by
    simpa only [State.progress, Prod.mk.injEq] using h
  exact appends_of_eq hi hr

theorem appends_startPass (s : State) : Appends s (startPass s) := by
  unfold startPass
  split <;> exact appends_of_eq rfl rfl

theorem appends_advance (s : State) : Appends s (advance s) := by
  by_cases h : s.va + granule = scanEnd
  · rw [advance_end h]
    exact appends_of_eq (by simp only [enterPassEnd_items]) (by simp only [enterPassEnd_ranges])
  · rw [advance_on h]
    exact appends_of_eq (by simp only) (by simp only)

theorem BlockEffect.appends {s t : State} (h : BlockEffect s t) : Appends s t := by
  cases h with
  | stay => exact appends_of_eq rfl rfl
  | startPass => exact appends_startPass s
  | route => exact appends_of_progress (progress_routeGranule s)
  | fetchL1 => exact appends_of_progress (progress_fetchL1 s)
  | fetchL2 => exact appends_of_progress (progress_fetchL2 s)
  | exec h => exact appends_of_progress h.progress
  | advance => exact appends_advance s
  | take item =>
    have h := progress_takeItem item s
    simp only [State.progress, Prod.mk.injEq] at h
    exact ⟨[item], [], h.2.1, by rw [h.2.2, List.append_nil], le_rfl⟩
  | emitRange item c p x =>
    have h := progress_finishFlush item c p x s
    simp only [State.progress, Prod.mk.injEq] at h
    exact ⟨[], [_], by rw [h.2.1, List.append_nil], h.2.2, le_rfl⟩

/-- Settles O59: only the block's own move delivers, and what it adds is one item or one range. -/
theorem deliveredStaysDelivered : Obligations.DeliveredStaysDelivered := by
  intro s t h
  rcases step_cases h with ⟨-, a, rfl⟩ | ⟨-, -, hb⟩ | ⟨-, rest, -, hb⟩ | ⟨-, i, rest, r', -, rfl⟩ |
    ⟨-, reg, v, rest, c, -, -, -, rfl⟩ | ⟨-, v, rest, -, -, -, rfl⟩ | ⟨-, reg, rest, l, -, rfl⟩ |
    ⟨-, rest, -, rfl⟩ | ⟨-, cells, rest, -, -, rfl⟩ | ⟨-, q, rest, -, rfl⟩ | ⟨-, ready, rest, -, rfl⟩ |
    ⟨-, ready, rest, -, rfl⟩
  case inr.inl => exact (blockEffect hb).appends
  case inr.inr.inl => exact (blockEffect hb).appends
  all_goals exact appends_of_eq rfl rfl

/-! ## No fault (R147, R149; log entry 19) -/

theorem run_ne_fault (e : Encoded) (s : State) (f : Fault) : (Action.run e s).outcome ≠ .fault f := by
  cases hd : decode e with
  | error err => simp [Action.outcome, hd]
  | ok i =>
    obtain ⟨t, ht, -⟩ := exec_effect i s
    simp [Action.outcome, hd, ht]

theorem hostWrite_ne_fault (reg : Nat) (v : Word) (s : State) (f : Fault) : (hostWrite reg v s).outcome ≠ .fault f := by
  unfold hostWrite
  split
  case h_6 => exact run_ne_fault _ s f
  all_goals simp

theorem hostRead_ne_fault (reg : Nat) (s : State) (f : Fault) : hostRead reg s ≠ .fault f := by
  unfold hostRead
  split <;> simp

theorem hostLoad_ne_fault (cells : List Host.Cell) (s : State) (f : Fault) : hostLoad cells s ≠ .fault f := by
  unfold hostLoad
  split <;> simp

theorem Consistent.offerStep_ne_fault {s : State} (h : Consistent s) (hf : s.flush = .idle)
    (hs : s.st = .emit ∨ s.st = .passEnd) (f : Fault) : Machine.offerStep s ≠ .fault f := by
  cases hk : s.entKind with
  | none => exact absurd hk (h.offer_some hs hf)
  | entry => simp [offerStep_some (offered_entry hk)]
  | endOfPass => simp [offerStep_some (offered_end hk)]

theorem Consistent.blockAction_ne_fault {s : State} (h : Consistent s) (f : Fault) :
    (Machine.blockAction s).outcome ≠ .fault f := by
  cases hf : s.flush with
  | texcb item => rw [blockAction_texcb hf]; exact run_ne_fault _ s f
  | ap item c => rw [blockAction_ap hf]; exact run_ne_fault _ s f
  | xn item c p => rw [blockAction_xn hf]; exact run_ne_fault _ s f
  | emit item c p x => rw [blockAction_emit hf]; simp
  | idle =>
    rw [blockAction_walk hf]
    cases hs : s.st with
    | emit => exact h.offerStep_ne_fault hf (.inl hs) f
    | passEnd => exact h.offerStep_ne_fault hf (.inr hs) f
    | l1Decode | l2Decode => exact run_ne_fault _ s f
    | idle | passStart | route | l1Fetch | l2Fetch | advance | done | error => simp

/-- Settles O56: only the block's own offer can fault, and a consistent state offers something. -/
theorem consistentStatesDoNotFault : Obligations.ConsistentStatesDoNotFault := by
  intro s f h
  rw [step_eq_outcome]
  cases hd : s.direct with
  | some q => rw [nextAction_direct hd]; exact run_ne_fault _ s f
  | none => cases hi : s.inputs with
    | nil => rw [nextAction_block hd hi]; exact h.blockAction_ne_fault f
    | cons i rest =>
      have henv : Consistent (s.afterInput rest) := h.environment _ _ _ _ _ rest
      rw [nextAction_input hd hi]
      cases i with
      | proceed => exact henv.blockAction_ne_fault f
      | poll =>
        dsimp only
        split
        · exact h.blockAction_ne_fault f
        · simp
      | write reg v => exact hostWrite_ne_fault reg v _ f
      | read reg => exact hostRead_ne_fault reg _ f
      | loadImage cells => exact hostLoad_ne_fault cells _ f
      | hold | consumer | memory | reset | decode | stopOnError => simp

end Sys2Proof.Machine
end

section
/-! SUPPORT and PROOFS. The table walker's arithmetic (spec/40_table_walker.md R133 to R146): the addresses of descriptors
and pages as numbers, and the granules of a pass. -/

namespace Sys2Proof.Machine

/-! ## Fields and offsets as numbers -/

theorem toNat_and_mask {w : Nat} {x m : BitVec w} (n : Nat) (hm : m.toNat = 2 ^ n - 1) :
    (x &&& m).toNat = x.toNat % 2 ^ n := by
  rw [BitVec.toNat_and, hm, Nat.and_two_pow_sub_one_eq_mod]

/-- The topmost `k` bits of a word are the quotient by the weight of their lowest bit. -/
theorem toNat_extractLsb'_high {d : Word} (n k : Nat) (hk : n + k = 32) :
    (d.extractLsb' n k).toNat = d.toNat / 2 ^ n := by
  rw [BitVec.extractLsb'_toNat, Nat.shiftRight_eq_div_pow]
  refine Nat.mod_eq_of_lt (Nat.div_lt_of_lt_mul ?_)
  rw [← pow_add, hk]
  exact d.isLt

/-- A page's address: base field OR offset is base times size plus offset, for the pages in 32 bits (R145, R146). -/
theorem toNat_pageAddress {k n : Nat} (base : BitVec k) (va m : Word) (hk : n + k = 32) (hm : m.toNat = 2 ^ n - 1) :
    ((base.setWidth 32 <<< n ||| (va &&& m)).setWidth 40).toNat = base.toNat * 2 ^ n + va.toNat % 2 ^ n := by
  have hb : (base.setWidth 32).toNat = base.toNat := BitVec.toNat_setWidth_of_le (by omega)
  have hoff : (va &&& m).toNat < 2 ^ n := toNat_and_mask n hm ▸ Nat.mod_lt _ (by positivity)
  have hfit : 2 ^ n * (base.setWidth 32).toNat < 2 ^ 32 := by
    rw [hb, ← hk, pow_add]
    exact Nat.mul_lt_mul_of_pos_left base.isLt (by positivity)
  rw [BitVec.toNat_setWidth_of_le (by decide), BitVec.or_comm, toNat_or_shiftLeft hoff hfit, hb, toNat_and_mask n hm]
  ring

theorem toNat_paSupersection (base : BitVec 8) (ext1 ext2 : BitVec 4) (va : Word) :
    (paSupersection base ext1 ext2 va).toNat =
      ext2.toNat * 2 ^ 36 + ext1.toNat * 2 ^ 32 + base.toNat * 2 ^ 24 + va.toNat % 2 ^ 24 := by
  have hb : (base.setWidth 40).toNat = base.toNat := BitVec.toNat_setWidth_of_le (by decide)
  have h1 : (ext1.setWidth 40).toNat = ext1.toNat := BitVec.toNat_setWidth_of_le (by decide)
  have h2 : (ext2.setWidth 40).toNat = ext2.toNat := BitVec.toNat_setWidth_of_le (by decide)
  have hoff : ((va &&& 0x00FFFFFF).setWidth 40).toNat = va.toNat % 2 ^ 24 := by
    rw [BitVec.toNat_setWidth_of_le (by decide), toNat_and_mask 24 (by decide)]
  have s1 := toNat_or_shiftLeft (x := (va &&& 0x00FFFFFF).setWidth 40) (y := base.setWidth 40) (n := 24)
    (by omega) (by omega)
  have s2 := toNat_or_shiftLeft (y := ext1.setWidth 40) (n := 32) (by rw [s1]; omega) (by omega)
  have s3 := toNat_or_shiftLeft (y := ext2.setWidth 40) (n := 36) (by rw [s2, s1]; omega) (by omega)
  rw [s2, s1, h2, h1, hb, hoff] at s3
  rw [paSupersection, BitVec.or_assoc, BitVec.or_assoc]
  rw [BitVec.or_comm, BitVec.or_comm (ext1.setWidth 40 <<< 32), BitVec.or_comm (base.setWidth 40 <<< 24), s3]
  ring

/-- Settles O14: no field of a page's address overlaps another. -/
theorem physicalAddressArithmetic : Obligations.PhysicalAddressArithmetic := by
  intro d va
  refine ⟨?_, ?_, ?_, ?_⟩
  · exact (toNat_pageAddress _ va _ (n := 20) rfl rfl).trans
      (by rw [sectionFieldsOf, toNat_extractLsb'_high 20 12 rfl]; rfl)
  · refine (toNat_paSupersection ..).trans ?_
    simp only [supersectionFieldsOf, toNat_extractLsb'_high 24 8 rfl, BitVec.extractLsb'_toNat,
      Nat.shiftRight_eq_div_pow]
    rfl
  · exact (toNat_pageAddress _ va _ (n := 16) rfl rfl).trans
      (by rw [largePageFieldsOf, toNat_extractLsb'_high 16 16 rfl]; rfl)
  · exact (toNat_pageAddress _ va _ (n := 12) rfl rfl).trans
      (by rw [smallPageFieldsOf, toNat_extractLsb'_high 12 20 rfl]; rfl)

/-! ## Descriptor addresses (R138, R142) -/

/-- A descriptor address is the base, its low `n` bits cleared, plus four times an index below 2^(n-2). -/
theorem toNat_descriptorAddress {base i m : Word} (n : Nat) (hm : base &&& m = base >>> n <<< n) (hi : i.toNat < 2 ^ n) :
    ((base &&& m) ||| i).toNat = base.toNat / 2 ^ n * 2 ^ n + i.toNat := by
  have hb : (base >>> n).toNat = base.toNat / 2 ^ n := by rw [BitVec.toNat_ushiftRight, Nat.shiftRight_eq_div_pow]
  have hfit : 2 ^ n * (base >>> n).toNat < 2 ^ 32 := by
    rw [hb]
    exact (Nat.mul_div_le _ _).trans_lt base.isLt
  rw [hm, BitVec.or_comm, toNat_or_shiftLeft hi hfit, hb]
  ring

theorem l1Index_eq (va : Word) : (va >>> 18) &&& l1IndexMask = va >>> 20 <<< 2 := by
  apply BitVec.eq_of_getLsbD_eq
  intro i hi
  interval_cases i <;> simp [l1IndexMask]

theorem toNat_l1Index (va : Word) : ((va >>> 18) &&& l1IndexMask).toNat = 4 * (va.toNat / 0x100000) := by
  rw [l1Index_eq, BitVec.toNat_shiftLeft, BitVec.toNat_ushiftRight, Nat.shiftRight_eq_div_pow, Nat.shiftLeft_eq]
  omega

theorem l2Index_eq (va : Word) : (va >>> 10) &&& l2IndexMask = ((va >>> 12) &&& 0xFF) <<< 2 := by
  apply BitVec.eq_of_getLsbD_eq
  intro i hi
  interval_cases i <;> simp [l2IndexMask]

theorem toNat_l2Index (va : Word) : ((va >>> 10) &&& l2IndexMask).toNat = 4 * (va.toNat / 0x1000 % 256) := by
  rw [l2Index_eq, BitVec.toNat_shiftLeft, toNat_and_mask 8 rfl, BitVec.toNat_ushiftRight, Nat.shiftRight_eq_div_pow,
    Nat.shiftLeft_eq]
  omega

theorem and_l1Mask_zero (base : Word) : base &&& l1Mask 0 = base >>> 7 <<< 7 := by
  apply BitVec.eq_of_getLsbD_eq
  intro i hi
  interval_cases i <;> simp [l1Mask]

theorem and_l1Mask_one (base : Word) : base &&& l1Mask 1 = base >>> 14 <<< 14 := by
  apply BitVec.eq_of_getLsbD_eq
  intro i hi
  interval_cases i <;> simp [l1Mask]

theorem and_l2Mask (d : Word) : d &&& 0xFFFFFC00 = d >>> 10 <<< 10 := by
  apply BitVec.eq_of_getLsbD_eq
  intro i hi
  interval_cases i <;> simp

/-- An address whose bits [1:0] are clear is a multiple of 4 (R65, R66). -/
theorem toNat_mod_four {a : Word} (h0 : a.getLsbD 0 = false) (h1 : a.getLsbD 1 = false) : a.toNat % 4 = 0 := by
  have h := congrArg BitVec.toNat (type_zero.mpr ⟨h0, h1⟩)
  simpa using h

theorem l1Addr_aligned (tbl : BitVec 1) (ttbr va : Word) : (l1Addr tbl ttbr va).toNat % 4 = 0 := by
  refine toNat_mod_four ?_ ?_ <;> unfold l1Addr l1Mask <;> split_ifs <;> simp [l1IndexMask]

/-- Settles O15: base and index lie in different bits. -/
theorem descriptorAddressArithmetic : Obligations.DescriptorAddressArithmetic := by
  have hl2 : ∀ d va : Word, (l2Addr (pageTableFieldsOf d).tableBase va).toNat =
      d.toNat / 1024 * 1024 + 4 * (va.toNat / 0x1000 % 256) := by
    intro d va
    have hi := toNat_l2Index va
    rw [l2Addr_of_word, BigStep.l2AddrWord, ← hi]
    exact toNat_descriptorAddress 10 (and_l2Mask d) (by rw [← l2IndexMask]; omega)
  refine ⟨fun ttbr va hva => ?_, fun ttbr va => ?_, hl2, fun tbl ttbr d va => ⟨l1Addr_aligned tbl ttbr va, ?_⟩⟩
  · rw [l1Addr, ← toNat_l1Index va]
    exact toNat_descriptorAddress 7 (and_l1Mask_zero ttbr) (by rw [toNat_l1Index]; omega)
  · rw [l1Addr, ← toNat_l1Index va]
    exact toNat_descriptorAddress 14 (and_l1Mask_one ttbr) (by rw [toNat_l1Index]; omega)
  · rw [hl2]; omega

/-! ## The granules of a pass (R133, R135, R137) -/

open BigStep

/-- A run of granules routed to the other table is passed over. -/
theorem scanFrom_unrouted {win : Window} {tbl : BitVec 1} {ttbr : Word} (m : Nat) : ∀ {n : Nat} {va : Wide},
    va.toNat + 1024 * n ≤ 0x100000000 →
    (∀ v : Wide, va.toNat ≤ v.toNat → v.toNat < va.toNat + 1024 * n → route v ≠ tbl) →
    ∃ v : Wide, v.toNat = va.toNat + 1024 * n ∧ scanFrom win tbl ttbr (n + m) va = scanFrom win tbl ttbr m v
  | 0, va, _, _ => ⟨va, rfl, by rw [Nat.zero_add]⟩
  | n + 1, va, hle, hout => by
    have hva := toNat_add_granule (va := va) (by omega)
    obtain ⟨v, hv, heq⟩ := scanFrom_unrouted m (win := win) (ttbr := ttbr) (n := n) (va := va + granule) (by omega)
      fun v h1 h2 => hout v (by omega) (by omega)
    refine ⟨v, by omega, ?_⟩
    rw [Nat.succ_add, scanFrom, if_neg (hout va le_rfl (by omega)), heq]

/-- A scan may stop where no later granule is routed to its table. -/
theorem scanFrom_tail {win : Window} {tbl : BitVec 1} {ttbr : Word} {m : Nat} : ∀ {n : Nat} {va : Wide},
    va.toNat + 1024 * (n + m) ≤ 0x100000000 →
    (∀ v : Wide, va.toNat + 1024 * n ≤ v.toNat → route v ≠ tbl) →
    scanFrom win tbl ttbr (n + m) va = scanFrom win tbl ttbr n va
  | 0, va, hle, hout => by
    obtain ⟨v, -, heq⟩ := scanFrom_unrouted 0 (win := win) (ttbr := ttbr) (n := m) (va := va) (by omega)
      fun v h1 _ => hout v h1
    rw [Nat.zero_add, ← Nat.add_zero m, heq]
    rfl
  | n + 1, va, hle, hout => by
    have hva := toNat_add_granule (va := va) (by omega)
    have ih := scanFrom_tail (win := win) (ttbr := ttbr) (m := m) (n := n) (va := va + granule) (by omega)
      fun v h => hout v (by omega)
    rw [Nat.succ_add, scanFrom, scanFrom, ih]

theorem passStream_present (win : Window) (tbl : BitVec 1) {ttbr : Word} (h : ttbr ≠ 0) :
    passStream win tbl ttbr = scanFrom win tbl ttbr granulesPerPass 0 := if_neg h

/-- The granules of the two tables (R133, R135). -/
theorem granulesPerPass_eq : granulesPerPass = 32768 + 4161536 := rfl

/-- Settles O40: pass 0 may stop at 0x02000000, and pass 1 may begin there. -/
theorem unroutedGranulesDoNotMatter : Obligations.UnroutedGranulesDoNotMatter := by
  intro win ttbr h
  have hzero : (0 : Wide).toNat = 0 := rfl
  rw [passStream_present win 0 h, passStream_present win 1 h, granulesPerPass_eq]
  constructor
  · refine scanFrom_tail (by omega) fun v hv hr => ?_
    rw [route_eq_zero_iff] at hr
    omega
  · obtain ⟨v, hv, heq⟩ := scanFrom_unrouted 4161536 (win := win) (tbl := 1) (ttbr := ttbr) (n := 32768) (va := 0)
      (by omega) fun v _ h2 hr => by rw [route_eq_one_iff] at hr; omega
    rw [heq, BitVec.eq_of_toNat_eq (y := (0x02000000 : Wide)) hv]

/-- The virtual address of an entry, as a number. -/
def entryAddress : StreamItem → Option Nat
  | .entry e => some e.virtualAddress.toNat
  | .endOfPass _ => none

/-- The addresses are granules of table `tbl` from `lo` on, each above the one before. -/
def Ascending (tbl : BitVec 1) (lo : Nat) (vas : List Nat) : Prop :=
  vas.Pairwise (· < ·) ∧
    ∀ a ∈ vas, lo ≤ a ∧ a % 1024 = 0 ∧ (tbl = 0 → a < 0x02000000) ∧ (tbl = 1 → 0x02000000 ≤ a)

theorem Ascending.nil (tbl : BitVec 1) (lo : Nat) : Ascending tbl lo [] := ⟨.nil, nofun⟩

theorem Ascending.mono {tbl : BitVec 1} {lo lo' : Nat} {vas : List Nat} (h : Ascending tbl lo vas) (hlo : lo' ≤ lo) :
    Ascending tbl lo' vas :=
  ⟨h.1, fun a ha => ⟨hlo.trans (h.2 a ha).1, (h.2 a ha).2⟩⟩

theorem Ascending.cons {va : Wide} {vas : List Nat} (hmod : va.toNat % 1024 = 0)
    (h : Ascending (route va) (va.toNat + 1024) vas) : Ascending (route va) va.toNat (va.toNat :: vas) := by
  obtain ⟨hpair, hall⟩ := h
  refine ⟨.cons (fun a ha => by have := (hall a ha).1; omega) hpair, fun a ha => ?_⟩
  rcases List.mem_cons.mp ha with rfl | ha
  · exact ⟨le_rfl, hmod, (route_eq_zero_iff va).mp, (route_eq_one_iff va).mp⟩
  · obtain ⟨hlo, hrest⟩ := hall a ha
    exact ⟨by omega, hrest⟩

theorem scanFrom_ascending {win : Window} {tbl : BitVec 1} {ttbr : Word} : ∀ {n : Nat} {va : Wide},
    va.toNat + 1024 * n ≤ 0x100000000 → va.toNat % 1024 = 0 →
    Ascending tbl va.toNat ((scanFrom win tbl ttbr n va).items.filterMap entryAddress)
  | 0, va, _, _ => .nil tbl va.toNat
  | n + 1, va, hle, hmod => by
    have hva := toNat_add_granule (va := va) (by omega)
    have ih := scanFrom_ascending (win := win) (tbl := tbl) (ttbr := ttbr) (n := n) (va := va + granule) (by omega)
      (by omega)
    rw [hva] at ih
    by_cases hr : route va = tbl
    · subst hr
      rw [scanFrom, if_pos rfl]
      cases hres : resolve win (route va) ttbr (va32 va) with
      | skip => exact ih.mono (by omega)
      | fatal e => exact .nil _ _
      | entry e =>
        have he : entryAddress (.entry e) = some va.toNat := by
          rw [entryAddress, resolve_virtualAddress hres, toNat_va32 (by omega)]
        rw [List.filterMap_cons_some he]
        exact ih.cons hmod
    · rw [scanFrom, if_neg hr]
      exact ih.mono (by omega)

theorem passStream_ascending (win : Window) (tbl : BitVec 1) (ttbr : Word) :
    Ascending tbl 0 ((passStream win tbl ttbr).items.filterMap entryAddress) := by
  unfold passStream
  split
  · exact .nil tbl 0
  · exact scanFrom_ascending (va := 0) (by decide) rfl

/-- Settles O39, by induction on the granules left in the pass. -/
theorem entriesAscend : Obligations.EntriesAscend := by
  intro win tbl ttbr
  obtain ⟨hpair, hall⟩ := passStream_ascending win tbl ttbr
  exact ⟨hpair, fun a ha => (hall a ha).2⟩

end Sys2Proof.Machine
end

section
/-! SUPPORT and PROOFS. A walk of the step machine is the big-step walk (spec/40_table_walker.md R131, R152, R256): the
lookup of a granule is `resolve`, an item taken is `coalesceOne`, and a pass is an induction on its granules. -/

namespace Sys2Proof.Machine

open BigStep

/-! ## Moves in a row -/

/-- At most `k` moves lead from `s` to `t`. -/
def Moves (k : Nat) (s t : State) : Prop := ∃ n ≤ k, Host.Core.run core n s = .next t

theorem Moves.refl (s : State) : Moves 0 s s := ⟨0, le_rfl, rfl⟩

theorem Moves.cons {k : Nat} {s t u : State} (h : step s = .next t) (ht : Moves k t u) : Moves (k + 1) s u := by
  obtain ⟨n, hn, hrun⟩ := ht
  exact ⟨n + 1, by omega, (run_succ h).trans hrun⟩

theorem Moves.single {s t : State} (h : step s = .next t) : Moves 1 s t := .cons h (.refl t)

theorem run_add {m : Nat} (n : Nat) {s t : State} (h : Host.Core.run core m s = .next t) :
    Host.Core.run core (m + n) s = Host.Core.run core n t := by
  induction m generalizing s with
  | zero =>
    obtain rfl := Host.Outcome.next.inj h
    rw [Nat.zero_add]
  | succ m ih =>
    rw [Nat.succ_add]
    cases hs : step s with
    | next s' => rw [run_succ hs] at h ⊢; exact ih h
    | fault f => simp [Host.Core.run, core, hs] at h
    | refused r => simp [Host.Core.run, core, hs] at h

theorem Moves.trans {j k : Nat} {s t u : State} (h : Moves j s t) (ht : Moves k t u) : Moves (j + k) s u := by
  obtain ⟨m, hm, hrun⟩ := h
  obtain ⟨n, hn, hrun'⟩ := ht
  exact ⟨m + n, by omega, (run_add n hrun).trans hrun'⟩

theorem Moves.mono {j k : Nat} {s t : State} (h : Moves j s t) (hle : j ≤ k) : Moves k s t := by
  obtain ⟨n, hn, hrun⟩ := h
  exact ⟨n, hn.trans hle, hrun⟩

/-- A walk is in progress and every party is ready: nothing is pending and no flush runs. -/
structure Walking (s : State) : Prop where
  quiet : s.quiet
  flush : s.flush = .idle
  consumer : s.consumerReady = true
  memory : s.memoryReady = true

theorem Walking.step {s : State} (h : Walking s) {w : WalkState} (hs : s.st = w) : step s = walkMove s w :=
  step_turn ⟨h.quiet, h.flush, hs⟩

/-! ## The lookup of a granule (R134, R138 to R144) -/

/-- What a lookup leaves in the latches (R35, R36, R37). -/
structure Latches where
  l1a : Word
  l1d : Word
  l2a : Word
  l2d : Word
  dom : BitVec 4

/-- The state with its latches written and the walker in `w`. -/
def State.latched (s : State) (l : Latches) (w : WalkState) : State :=
  { s with l1a := l.l1a, l1d := l.l1d, l2a := l.l2a, l2d := l.l2d, dom := l.dom, st := w }

/-- How the walker leaves the lookup of a granule. -/
def leaveLookup (s : State) : Resolved → State
  | .skip => skipGranule s
  | .entry e => emitEntry e s
  | .fatal e => raise e s

/-- Which latches were written before, and in which state the walker was, does not show after the lookup. -/
theorem leaveLookup_latched (s : State) (l l' : Latches) (w w' : WalkState) (r : Resolved) :
    leaveLookup ((s.latched l w).latched l' w') r = leaveLookup (s.latched l' w') r := by
  cases r <;> rfl

theorem Walking.latched {s : State} (h : Walking s) (l : Latches) (w : WalkState) : Walking (s.latched l w) :=
  ⟨h.quiet, h.flush, h.consumer, h.memory⟩

/-- The lookup ends as the big-step resolution `r` says, whatever it latches. -/
def LooksUp (k : Nat) (s : State) (r : Resolved) : Prop :=
  ∃ l w, Moves k s (leaveLookup (s.latched l w) r)

theorem LooksUp.of_step {k : Nat} {s : State} {l : Latches} {w : WalkState} {r : Resolved}
    (h : step s = .next (s.latched l w)) (hl : LooksUp k (s.latched l w) r) : LooksUp (k + 1) s r := by
  obtain ⟨l', w', hm⟩ := hl
  rw [leaveLookup_latched] at hm
  exact ⟨l', w', .cons h hm⟩

theorem LooksUp.now {k : Nat} {s t : State} {r : Resolved} (h : step s = .next t) (l : Latches) (w : WalkState)
    (ht : t = leaveLookup (s.latched l w) r) : LooksUp (k + 1) s r :=
  ⟨l, w, (Moves.single (h.trans (by rw [ht]))).mono (by omega)⟩

/-- The latches of a state. -/
def State.latches (s : State) : Latches := ⟨s.l1a, s.l1d, s.l2a, s.l2d, s.dom⟩

theorem exec_decodeL2_resolve (d : Word) (s : State) :
    exec (decodeL2 d) s = .next (leaveLookup s (resolveL2 d (va32 s.va))) := by
  rw [exec_decodeL2, resolveL2]
  split_ifs <;> rfl

theorem looksUp_l2Decode {s : State} (h : Walking s) (hs : s.st = .l2Decode) :
    LooksUp 1 s (resolveL2 s.l2d (va32 s.va)) :=
  .now ((h.step hs).trans (exec_decodeL2_resolve s.l2d s)) s.latches s.st rfl

/-- `resolve` from the second-level fetch on (R152). -/
def resolveTable (win : Window) (d1 va : Word) : Resolved :=
  match win.read (l2AddrWord d1 va) with
  | none => .fatal (.outOfBounds 1 va (l2AddrWord d1 va))
  | some d2 => resolveL2 d2 va

theorem looksUp_l2Fetch {s : State} (h : Walking s) (hs : s.st = .l2Fetch) :
    LooksUp 2 s (resolveTable s.window s.l1d (va32 s.va)) := by
  have hstep : step s = .next (fetchL2 s) := (h.step hs).trans (by rw [walkMove, h.memory, whenReady_true])
  have haddr : l2AddrNow s = l2AddrWord s.l1d (va32 s.va) := l2Addr_of_word s.l1d (va32 s.va)
  have hread : s.window.read (l2AddrWord s.l1d (va32 s.va)) = fetchWord s (l2AddrNow s) := by rw [haddr]; rfl
  rw [resolveTable, hread]
  cases hw : fetchWord s (l2AddrNow s) with
  | none =>
    rw [fetchL2_outside hw] at hstep
    exact .now hstep { s.latches with l2a := l2AddrNow s } s.st (by rw [← haddr]; rfl)
  | some d =>
    rw [fetchL2_inside hw] at hstep
    exact .of_step (l := { s.latches with l2a := l2AddrNow s, l2d := d }) hstep (looksUp_l2Decode (h.latched _ _) rfl)

theorem looksUp_l1Decode {s : State} (h : Walking s) (hs : s.st = .l1Decode) :
    LooksUp 3 s (resolveL1 s.window s.l1a s.l1d (va32 s.va)) := by
  have hstep : step s = _ := (h.step hs).trans (exec_decodeL1 s.l1d s)
  unfold resolveL1
  split_ifs at hstep ⊢
  · exact .now hstep s.latches s.st rfl
  · exact .now hstep s.latches s.st rfl
  · exact .of_step (l := { s.latches with dom := s.l1d.extractLsb' 5 4 }) hstep (looksUp_l2Fetch (h.latched _ _) rfl)
  · exact .now hstep s.latches s.st rfl
  · exact .now hstep s.latches s.st rfl

theorem looksUp_l1Fetch {s : State} (h : Walking s) (hs : s.st = .l1Fetch) :
    LooksUp 4 s (resolve s.window s.tbl s.root (va32 s.va)) := by
  have hstep : step s = .next (fetchL1 s) := (h.step hs).trans (by rw [walkMove, h.memory, whenReady_true])
  have hread : s.window.read (l1Addr s.tbl s.root (va32 s.va)) =
    fetchWord s (l1Addr s.tbl (s.snap.root s.tbl) (va32 s.va)) := rfl
  rw [resolve, hread]
  cases hw : fetchWord s (l1Addr s.tbl (s.snap.root s.tbl) (va32 s.va)) with
  | none =>
    rw [fetchL1_outside hw] at hstep
    exact .now hstep { s.latches with l1a := l1Addr s.tbl s.root (va32 s.va) } s.st rfl
  | some d =>
    rw [fetchL1_inside hw] at hstep
    exact .of_step (l := { s.latches with l1a := l1Addr s.tbl s.root (va32 s.va), l1d := d }) hstep
      (looksUp_l1Decode (h.latched _ _) rfl)

/-- A routed granule is looked up as `resolve` says, in five moves at most. -/
theorem looksUp_route {s : State} (h : Walking s) (hs : s.st = .route) (hr : route s.va = s.tbl) :
    LooksUp 5 s (resolve s.window s.tbl s.root (va32 s.va)) :=
  .of_step (l := s.latches) ((h.step hs).trans (congrArg _ (routeGranule_in hr))) (looksUp_l1Fetch (h.latched _ _) rfl)

/-! ## Taking an item (R230 to R236) -/

/-- What is left in the accumulator by the item that caused a flush (R234, R236). -/
def Accumulator.renewed (c : Accumulator) : StreamItem → Accumulator
  | .entry e => .startedBy e
  | .endOfPass _ => c.emptied

/-- The item is finished, with these ranges emitted and this accumulator. -/
def finishItem (item : StreamItem) (c : Accumulator) (rs : List MergedRange) (s : State) : State :=
  releaseWalker item { s with ranges := s.ranges ++ rs, flush := .idle, cur := c }

theorem finishFlush_eq (item : StreamItem) (c : CacheLabel) (p : AccessLabel) (x : Bool) (s : State) :
    finishFlush item c p x s = finishItem item (s.cur.renewed item) [s.cur.merged c p x] s := by
  cases item <;> rfl

theorem step_flush_emit {s : State} (hq : s.quiet) (hc : s.consumerReady = true) {item : StreamItem} {c : CacheLabel}
    {p : AccessLabel} {x : Bool} (hf : s.flush = .emit item c p x) :
    step s = .next (finishItem item (s.cur.renewed item) [s.cur.merged c p x] s) := by
  rw [step_quiet hq, blockAction_emit hf, Action.outcome_other]
  exact congrArg _ ((congrArg (whenReady · _ s) hc).trans (finishFlush_eq item c p x s))

/-- How the block leaves an item it has taken: finished, or failed. -/
def leaveItem (s : State) (item : StreamItem) : Except ErrInfo (Accumulator × List MergedRange) → State
  | .error e => raise e s
  | .ok (c, rs) => finishItem item c rs s

/-- How far the flush had come does not show after it. -/
theorem leaveItem_flush (s : State) (f : FlushStep) (item : StreamItem)
    (r : Except ErrInfo (Accumulator × List MergedRange)) :
    leaveItem { s with flush := f } item r = leaveItem s item r := by
  cases r <;> rfl

/-- What a flush leads to: the range it emits and the renewed accumulator, or a decode error (R235). -/
def flushResult (c : Accumulator) (item : StreamItem) : Except ErrInfo (Accumulator × List MergedRange) :=
  (flushRange c).map fun r => (c.renewed item, [r])

/-- The four moves of a flush end as `flushRange` says (R235). -/
theorem moves_flush {s : State} {item : StreamItem} (hq : s.quiet) (hc : s.consumerReady = true)
    (hf : s.flush = .texcb item) :
    Moves 4 s (leaveItem s item (flushResult s.cur item)) := by
  have h1 := (step_flush_texcb hq hf).trans (exec_decodeTEXCB5 s.cur.texcb s)
  unfold flushResult flushRange
  cases ht : decodeTexcb s.cur.texcb with
  | none =>
    simp only [ht, failCacheAttr_flush _ hq.1 hf] at h1
    exact (Moves.single h1).mono (by decide)
  | some c =>
    simp only [ht, deliverCacheAttr_flush c hq.1 hf] at h1
    have h2 := (step_flush_ap (s := { s with flush := .ap item c }) hq rfl).trans (exec_decodeAP3 s.cur.ap _)
    cases ha : decodeAp s.cur.ap with
    | none =>
      simp only [ha, failAccess_flush (s := { s with flush := .ap item c }) _ hq.1 rfl] at h2
      exact (Moves.cons h1 (.single h2)).mono (by decide)
    | some p =>
      simp only [ha, deliverAccess_flush (s := { s with flush := .ap item c }) p hq.1 rfl] at h2
      have h3 := (step_flush_xn (s := { s with flush := .xn item c p }) hq rfl).trans (exec_decodeXN1 s.cur.xn _)
      rw [deliverExecuteNever_flush (s := { s with flush := .xn item c p }) _ hq.1 rfl] at h3
      have h4 := step_flush_emit (s := { s with flush := .emit item c p (decodeXn s.cur.xn) }) hq hc rfl
      exact .cons h1 (.cons h2 (.cons h3 (.single h4)))

/-- What the consumer does with an item: the coalescer's step, or nothing (R4, R230). -/
def acceptItem (coalescer : Bool) (c : Accumulator) (item : StreamItem) :
    Except ErrInfo (Accumulator × List MergedRange) :=
  if coalescer then coalesceOne c item else .ok (c, [])

/-- The item has been taken and not yet processed. -/
def State.taken (s : State) (item : StreamItem) : State :=
  { s with entKind := .none, items := s.items ++ [item] }

theorem finishItem_nil {s : State} (hf : s.flush = .idle) (item : StreamItem) (c : Accumulator) :
    finishItem item c [] s = releaseWalker item { s with cur := c } := by
  rw [finishItem, List.append_nil, ← hf]

/-- The machine's coalescer finishes the item at once, or begins a flush, where the big-step one does. -/
theorem coalesceItem_cases {s : State} (hf : s.flush = .idle) (item : StreamItem) :
    (∃ c, coalesceOne s.cur item = .ok (c, []) ∧ coalesceItem item s = finishItem item c [] s) ∨
    (coalesceOne s.cur item = flushResult s.cur item ∧
      coalesceItem item s = { s with flush := .texcb item }) := by
  cases item with
  | entry e => cases hx : s.cur.extendedBy e with
    | true => exact .inl ⟨s.cur.extend, by simp [coalesceOne, hx],
        by rw [coalesceItem_extend hx, finishItem_nil hf]; rfl⟩
    | false => cases hv : s.cur.valid with
      | true => exact .inr ⟨by simp [coalesceOne, hx, hv]; rfl, coalesceItem_flush hx hv⟩
      | false => exact .inl ⟨.startedBy e, by simp [coalesceOne, hx, hv],
          by rw [coalesceItem_first hv, finishItem_nil hf]; rfl⟩
  | endOfPass t => cases hv : s.cur.valid with
    | true => exact .inr ⟨by simp [coalesceOne, hv]; rfl, coalesceItem_endFlush hv⟩
    | false => exact .inl ⟨s.cur.emptied, by simp [coalesceOne, hv],
        by rw [coalesceItem_endEmpty hv, finishItem_nil hf]; rfl⟩

/-- An item on offer is taken and processed in five moves at most (R147, R149, R256). -/
theorem moves_item {s : State} (h : Walking s) {item : StreamItem} (hs : s.st = .emit ∨ s.st = .passEnd)
    (ho : offered s = some item) : Moves 5 s (leaveItem (s.taken item) item (acceptItem s.coalescer s.cur item)) := by
  have htakes : consumerTakes s = true := by simp [consumerTakes, h.consumer]
  have hstep : step s = .next (takeItem item s) := by
    rw [← offerStep_taken ho htakes]
    exact hs.elim (fun hs => h.step hs) (fun hs => h.step hs)
  have hf : (s.taken item).flush = .idle := h.flush
  cases hc : s.coalescer with
  | false =>
    rw [takeItem_absent item hc] at hstep
    refine (Moves.single (hstep.trans (congrArg _ ?_))).mono (by decide)
    exact (finishItem_nil hf item s.cur).symm
  | true =>
    rw [takeItem_present item hc] at hstep
    rcases coalesceItem_cases hf item with ⟨c, hone, hitem⟩ | ⟨hone, hitem⟩
    · have hacc : acceptItem true s.cur item = .ok (c, []) := hone
      rw [hacc]
      exact (Moves.single (hstep.trans (congrArg _ hitem))).mono (by decide)
    · have hacc : acceptItem true s.cur item = flushResult s.cur item := hone
      have hflush := moves_flush (s := { s.taken item with flush := .texcb item }) h.quiet h.consumer rfl
      rw [leaveItem_flush] at hflush
      rw [hacc]
      exact .cons (hstep.trans (congrArg _ hitem)) hflush

/-! ## What a walk has still to deliver (R152, R230) -/

/-- A stream with an item before it. -/
def BigStep.Stream.cons (item : StreamItem) (str : Stream) : Stream := ⟨item :: str.items, str.error⟩

/-- One stream and, if it ends normally, another (R131). -/
def BigStep.Stream.andThen (str rest : Stream) : Stream :=
  match str.error with
  | some e => ⟨str.items, some e⟩
  | none => ⟨str.items ++ rest.items, rest.error⟩

theorem cons_andThen (item : StreamItem) (str rest : Stream) :
    (str.cons item).andThen rest = (str.andThen rest).cons item := by
  obtain ⟨items, error⟩ := str
  cases error <;> rfl

/-- What is delivered when these items and ranges have been delivered already. -/
def BigStep.Result.after (r : Result) (items : List StreamItem) (ranges : List MergedRange) : Result :=
  ⟨items ++ r.items, ranges ++ r.ranges, r.error⟩

/-- What a consumer with this accumulator makes of a stream, with the coalescer or without (R4). -/
def consume (coalescer : Bool) (tbl : BitVec 1) (c : Accumulator) (str : Stream) : Result :=
  if coalescer then coalesceStream tbl c str.items str.error else ⟨str.items, [], str.error⟩

/-- The table whose items follow this one (R149). -/
def tableAfter (tbl : BitVec 1) : StreamItem → BitVec 1
  | .entry _ => tbl
  | .endOfPass _ => 1

theorem consume_nil (coalescer : Bool) (tbl : BitVec 1) (c : Accumulator) (err : Option (BitVec 1 × ErrInfo)) :
    consume coalescer tbl c ⟨[], err⟩ = ⟨[], [], err⟩ := by
  cases coalescer <;> rfl

theorem consume_cons_error {coalescer : Bool} {tbl : BitVec 1} {c : Accumulator} {item : StreamItem} {e : ErrInfo}
    (h : acceptItem coalescer c item = .error e) (str : Stream) :
    consume coalescer tbl c (str.cons item) = ⟨[item], [], some (tbl, e)⟩ := by
  cases coalescer with
  | false => cases h
  | true =>
    have hone : coalesceOne c item = .error e := h
    change coalesceStream tbl c (item :: str.items) str.error = _
    rw [coalesceStream, hone]

theorem consume_cons_ok {coalescer : Bool} {tbl : BitVec 1} {c c' : Accumulator} {item : StreamItem}
    {rs : List MergedRange} (h : acceptItem coalescer c item = .ok (c', rs)) (str : Stream) :
    consume coalescer tbl c (str.cons item) = (consume coalescer (tableAfter tbl item) c' str).after [item] rs := by
  cases coalescer with
  | false =>
    obtain ⟨-, rfl⟩ := Prod.mk.inj (Except.ok.inj h)
    rfl
  | true =>
    have hone : coalesceOne c item = .ok (c', rs) := h
    change coalesceStream tbl c (item :: str.items) str.error = _
    rw [coalesceStream, hone]
    cases item <;> rfl

/-- Without a range in it the accumulator plays no part (R40). -/
theorem coalesceStream_invalid {tbl : BitVec 1} {c c' : Accumulator} (h : c.valid = false) (h' : c'.valid = false)
    (items : List StreamItem) (err : Option (BitVec 1 × ErrInfo)) :
    coalesceStream tbl c items err = coalesceStream tbl c' items err := by
  induction items generalizing tbl c c' with
  | nil => rfl
  | cons item items ih => cases item with
    | entry e => simp [coalesceStream, coalesceOne, Accumulator.extendedBy, h, h']
    | endOfPass t =>
      simp [coalesceStream, coalesceOne, h, h', ih (c := c.emptied) (c' := c'.emptied) rfl rfl]

/-- The end of a pass leaves the consumer without a range (R236). -/
theorem consume_after_end {coalescer : Bool} {c c' : Accumulator} {t : BitVec 1} {rs : List MergedRange}
    (h : acceptItem coalescer c (.endOfPass t) = .ok (c', rs)) (tbl : BitVec 1) (str : Stream) :
    consume coalescer tbl c' str = consume coalescer tbl Accumulator.zero str := by
  cases coalescer with
  | false => rfl
  | true =>
    have hone : coalesceOne c (.endOfPass t) = .ok (c', rs) := h
    have hinvalid : c'.valid = false := by
      unfold coalesceOne at hone
      split_ifs at hone
      · cases hr : flushRange c with
        | error e => simp [hr, Except.map] at hone
        | ok r =>
          rw [hr] at hone
          obtain ⟨rfl, -⟩ := Prod.mk.inj (Except.ok.inj hone)
          rfl
      · obtain ⟨rfl, -⟩ := Prod.mk.inj (Except.ok.inj hone)
        rfl
    exact coalesceStream_invalid hinvalid rfl str.items str.error

theorem walkResult_eq (coalescer : Bool) (win : Window) (ttbr0 ttbr1 : Word) : walkResult coalescer win ttbr0 ttbr1 =
    consume coalescer 0 Accumulator.zero ((passStream win 0 ttbr0).andThen (passStream win 1 ttbr1)) := rfl

/-- The stream of the passes after the one in progress (R131). -/
def restStream (s : State) : Stream :=
  if s.tbl = 0 then passStream s.window 1 s.snap.ttbr1 else ⟨[], none⟩

/-- What the consumer of `s` makes of this stream of the pass in progress and of the passes after it. -/
def delivery (s : State) (str : Stream) : Result := consume s.coalescer s.tbl s.cur (str.andThen (restStream s))

/-! ## The end of a walk -/

/-- What the outcome of a walk is measured against: what was delivered, STATUS and the error registers, and what no walk
changes. -/
structure Account where
  items : List StreamItem
  ranges : List MergedRange
  cfg : ConfigRegs
  image : Memory
  status : Status
  errVa : Word
  errAddr : Word
  errData : Word

/-- The account of a state. -/
def State.account (s : State) : Account :=
  ⟨s.items, s.ranges, s.cfg, s.image, s.status, s.errVa, s.errAddr, s.errData⟩

/-- How a walk has ended in `t` when it has delivered `r` since its account was `a` (R148, R150, R258). -/
structure Ends (a : Account) (t : State) (r : Result) : Prop where
  items : t.items = a.items ++ r.items
  ranges : t.ranges = a.ranges ++ r.ranges
  cfg : t.cfg = a.cfg
  image : t.image = a.image
  ending : match r.error with
    | none =>
      t.st = .done ∧ t.status = a.status.finished ∧ t.errVa = a.errVa ∧ t.errAddr = a.errAddr ∧ t.errData = a.errData
    | some (tbl, e) =>
      t.st = .error ∧ t.status = a.status.failed e.code tbl e.lvl ∧ t.errVa = e.va ∧ t.errAddr = e.addr ∧
        t.errData = e.data

/-- The fatal transition ends the walk (R258). -/
theorem ends_raise (e : ErrInfo) (s : State) : Ends s.account (raise e s) ⟨[], [], some (s.tbl, e)⟩ :=
  ⟨(List.append_nil _).symm, (List.append_nil _).symm, rfl, rfl, rfl, rfl, rfl, rfl, rfl⟩

/-- The end of pass 1 ends the walk (R150). -/
theorem ends_finishPass {s : State} (ht : s.tbl ≠ 0) : Ends s.account (finishPass s) ⟨[], [], none⟩ := by
  rw [finishPass_second ht]
  exact ⟨(List.append_nil _).symm, (List.append_nil _).symm, rfl, rfl, rfl, rfl, rfl, rfl, rfl⟩

/-- What was delivered in between counts as delivered. -/
theorem Ends.after {a : Account} {t : State} {r : Result} {items : List StreamItem} {ranges : List MergedRange}
    (h : Ends { a with items := a.items ++ items, ranges := a.ranges ++ ranges } t r) :
    Ends a t (r.after items ranges) :=
  { h with
    items := h.items.trans (List.append_assoc ..)
    ranges := h.ranges.trans (List.append_assoc ..) }

theorem Ends.delivers {s t : State} {rest : List Input} {r : Result}
    (h : Ends (beginWalk (s.afterInput rest)).account t r) : Delivers s t r := by
  obtain ⟨items, ranges, error⟩ := r
  refine ⟨h.items, h.ranges, ?_⟩
  have hending := h.ending
  rcases error with _ | ⟨tbl, e⟩
  · exact hending
  · exact hending

/-- The walk in progress in `s` ends within `k` moves and delivers `r`. -/
def EndsWithin (k : Nat) (s : State) (r : Result) : Prop := ∃ t, Moves k s t ∧ Ends s.account t r

theorem EndsWithin.mono {j k : Nat} {s : State} {r : Result} (h : EndsWithin j s r) (hle : j ≤ k) : EndsWithin k s r := by
  obtain ⟨t, hm, he⟩ := h
  exact ⟨t, hm.mono hle, he⟩

/-- Moves that change nothing in the account lead to the same end. -/
theorem EndsWithin.of_moves {j k : Nat} {s u : State} {r : Result} (he : EndsWithin k u r) (hm : Moves j s u)
    (ha : u.account = s.account) : EndsWithin (j + k) s r := by
  obtain ⟨t, hm', he'⟩ := he
  exact ⟨t, hm.trans hm', ha ▸ he'⟩

/-! ## Items on the way to the end -/

/-- The item has been taken and processed, and the walker not yet released. -/
def State.settled (s : State) (item : StreamItem) (c : Accumulator) (rs : List MergedRange) : State :=
  { s with entKind := .none, items := s.items ++ [item], ranges := s.ranges ++ rs, flush := .idle, cur := c }

/-- A walk that offers an item ends as the big-step consumer says, if it does so once the item is processed. -/
theorem endsWithin_item {k : Nat} {s : State} {item : StreamItem} {str : Stream} (h : Walking s)
    (hs : s.st = .emit ∨ s.st = .passEnd) (ho : offered s = some item)
    (hnext : ∀ c rs, acceptItem s.coalescer s.cur item = .ok (c, rs) →
      ∃ t, Moves k (releaseWalker item (s.settled item c rs)) t ∧
        Ends (s.settled item c rs).account t (consume s.coalescer (tableAfter s.tbl item) c str)) :
    EndsWithin (5 + k) s (consume s.coalescer s.tbl s.cur (str.cons item)) := by
  have hm := moves_item h hs ho
  cases hacc : acceptItem s.coalescer s.cur item with
  | error e =>
    rw [hacc] at hm
    rw [consume_cons_error hacc]
    exact ⟨_, hm.mono (by omega), { ends_raise e (s.taken item) with items := rfl }⟩
  | ok r =>
    obtain ⟨c, rs⟩ := r
    obtain ⟨t, hm', he⟩ := hnext c rs hacc
    rw [hacc] at hm
    rw [consume_cons_ok hacc]
    exact ⟨t, hm.trans hm', Ends.after (a := s.account) he⟩

/-! ## The scan of a pass (R133, R136, R152) -/

/-- A pass with `n` granules left: at ROUTE, or with the end-of-pass item on offer. -/
def OnScan : Nat → State → Prop
  | 0, s => Walking s ∧ s.st = .passEnd ∧ offered s = some (.endOfPass s.tbl)
  | n + 1, s => Walking s ∧ s.st = .route ∧ s.va.toNat + 1024 * (n + 1) = 0x100000000

/-- The state with the scan counter at `v`, whatever is on offer there. -/
def State.scannedTo (s : State) (v : Wide) (t : BitVec 1) (k : EntKind) (w : WalkState) : State :=
  { s with va := v, entTbl := t, entKind := k, st := w }

@[simp] theorem scannedTo_tbl (s : State) (v : Wide) (t : BitVec 1) (k : EntKind) (w : WalkState) :
    (s.scannedTo v t k w).tbl = s.tbl := rfl

@[simp] theorem scannedTo_account (s : State) (v : Wide) (t : BitVec 1) (k : EntKind) (w : WalkState) :
    (s.scannedTo v t k w).account = s.account := rfl

theorem Walking.scannedTo {s : State} (h : Walking s) (v : Wide) (t : BitVec 1) (k : EntKind) (w : WalkState) :
    Walking (s.scannedTo v t k w) := ⟨h.quiet, h.flush, h.consumer, h.memory⟩

/-- The new value of the counter stays a name: unifying it with the old one would unfold the addition. -/
theorem advance_eq_scannedTo (s : State) : ∃ t k w, advance s = s.scannedTo (s.va + granule) t k w := by
  by_cases h : s.va + granule = scanEnd
  · refine ⟨s.tbl, .endOfPass, .passEnd, ?_⟩
    rw [advance_end h]
    generalize s.va + granule = v
    rfl
  · exact ⟨s.entTbl, s.entKind, .route, advance_on h⟩

theorem advance_tbl (s : State) : (advance s).tbl = s.tbl := by
  obtain ⟨t, k, w, ha⟩ := advance_eq_scannedTo s
  rw [ha, scannedTo_tbl]

theorem advance_account (s : State) : (advance s).account = s.account := by
  obtain ⟨t, k, w, ha⟩ := advance_eq_scannedTo s
  rw [ha, scannedTo_account]

theorem onScan_advance {n : Nat} {s : State} (h : Walking s) (hva : s.va.toNat + 1024 * (n + 1) = 0x100000000) :
    OnScan n (advance s) := by
  have hiff := add_granule_eq_scanEnd_iff (va := s.va) (by omega)
  have hadd := toNat_add_granule (va := s.va) (by omega)
  cases n with
  | zero =>
    rw [advance_end (hiff.mpr (by omega))]
    generalize s.va + granule = v
    exact ⟨h.scannedTo v _ _ _, rfl, rfl⟩
  | succ n =>
    have hleft : (s.va + granule).toNat + 1024 * (n + 1) = 0x100000000 := by linarith
    rw [advance_on (mt hiff.mp (by omega))]
    generalize s.va + granule = v at hleft ⊢
    exact ⟨h.scannedTo v _ _ _, rfl, hleft⟩

/-- What is left to deliver with `n` granules of the pass left. -/
def remaining (n : Nat) (s : State) : Result := delivery s (scanFrom s.window s.tbl s.root n s.va)

theorem remaining_scannedTo (n : Nat) (s : State) (v : Wide) (t : BitVec 1) (k : EntKind) (w : WalkState) :
    remaining n (s.scannedTo v t k w) = delivery s (scanFrom s.window s.tbl s.root n v) := rfl

theorem remaining_advance (n : Nat) (s : State) :
    remaining n (advance s) = delivery s (scanFrom s.window s.tbl s.root n (s.va + granule)) := by
  obtain ⟨t, k, w, ha⟩ := advance_eq_scannedTo s
  rw [ha, remaining_scannedTo]

theorem remaining_zero (s : State) :
    remaining 0 s = consume s.coalescer s.tbl s.cur ((restStream s).cons (.endOfPass s.tbl)) := rfl

theorem remaining_passedOver {n : Nat} {s : State}
    (h : route s.va ≠ s.tbl ∨ resolve s.window s.tbl s.root (va32 s.va) = .skip) :
    remaining (n + 1) s = delivery s (scanFrom s.window s.tbl s.root n (s.va + granule)) := by
  rw [remaining, scanFrom]
  rcases h with h | h
  · rw [if_neg h]
  · rw [h, ite_id]

theorem remaining_fatal {n : Nat} {s : State} {e : ErrInfo} (hr : route s.va = s.tbl)
    (h : resolve s.window s.tbl s.root (va32 s.va) = .fatal e) : remaining (n + 1) s = ⟨[], [], some (s.tbl, e)⟩ := by
  rw [remaining, scanFrom, if_pos hr, h]
  exact consume_nil ..

theorem remaining_entry {n : Nat} {s : State} {e : MappingEntry} (hr : route s.va = s.tbl)
    (h : resolve s.window s.tbl s.root (va32 s.va) = .entry e) : remaining (n + 1) s =
      consume s.coalescer s.tbl s.cur
        (((scanFrom s.window s.tbl s.root n (s.va + granule)).andThen (restStream s)).cons (.entry e)) := by
  rw [remaining, scanFrom, if_pos hr, h, ← cons_andThen]
  rfl

section
variable {k n : Nat} {s : State} (hva : s.va.toNat + 1024 * (n + 1) = 0x100000000)
  (hnext : ∀ s' : State, OnScan n s' → s'.tbl = s.tbl → EndsWithin k s' (remaining n s'))
include hva hnext

/-- The rest of a pass from ADVANCE on, in any state that the lookup of this granule leads to. -/
theorem endsWithin_advance {v : State} (h : Walking v) (hs : v.st = .advance) (hv : v.va = s.va) (ht : v.tbl = s.tbl) :
    EndsWithin (1 + k) v (delivery v (scanFrom v.window v.tbl v.root n (s.va + granule))) := by
  have hscan : OnScan n (advance v) := onScan_advance h (by rwa [hv])
  rw [← hv, ← remaining_advance]
  exact (hnext _ hscan ((advance_tbl v).trans ht)).of_moves (.single (h.step hs)) (advance_account v)

/-- The rest of a pass from EMIT on. -/
theorem endsWithin_emit {l : Latches} {w : WalkState} {e : MappingEntry} (h : Walking s) :
    EndsWithin (5 + (1 + k)) (emitEntry e (s.latched l w)) (consume s.coalescer s.tbl s.cur
      (((scanFrom s.window s.tbl s.root n (s.va + granule)).andThen (restStream s)).cons (.entry e))) := by
  have hemit : Walking (emitEntry e (s.latched l w)) := ⟨h.quiet, h.flush, h.consumer, h.memory⟩
  refine endsWithin_item hemit (.inl rfl) rfl fun c rs _ => ?_
  exact endsWithin_advance hva hnext (v := releaseWalker (.entry e) ((emitEntry e (s.latched l w)).settled _ c rs))
    ⟨h.quiet, rfl, h.consumer, h.memory⟩ rfl rfl rfl

end

/-- One granule of a pass: eleven moves at most. -/
theorem endsWithin_granule {k n : Nat} {s : State} (h : OnScan (n + 1) s)
    (hnext : ∀ s' : State, OnScan n s' → s'.tbl = s.tbl → EndsWithin k s' (remaining n s')) :
    EndsWithin (11 + k) s (remaining (n + 1) s) := by
  obtain ⟨hw, hs, hva⟩ := h
  by_cases hr : route s.va = s.tbl
  · obtain ⟨l, w, hm⟩ := looksUp_route hw hs hr
    cases hres : resolve s.window s.tbl s.root (va32 s.va) <;> rw [hres] at hm
    case skip =>
      rw [remaining_passedOver (.inr hres)]
      have hadvance := endsWithin_advance hva hnext (hw.latched l .advance) rfl rfl rfl
      exact (hadvance.of_moves hm rfl).mono (by omega)
    case fatal e =>
      rw [remaining_fatal hr hres]
      exact ⟨_, hm.mono (by omega), ends_raise e (s.latched l w)⟩
    case entry e =>
      rw [remaining_entry hr hres]
      exact ((endsWithin_emit hva hnext hw).of_moves hm rfl).mono (by omega)
  · rw [remaining_passedOver (.inl hr)]
    have hadvance := endsWithin_advance hva hnext (hw.latched s.latches .advance) rfl rfl rfl
    have hm := Moves.single ((hw.step hs).trans (congrArg _ (routeGranule_out hr)))
    exact (hadvance.of_moves hm rfl).mono (by omega)

/-- A pass on its scan: eleven moves a granule, and then what the end-of-pass item takes. -/
theorem endsWithin_scan {k : Nat} {tbl : BitVec 1}
    (hend : ∀ s : State, OnScan 0 s → s.tbl = tbl → EndsWithin k s (remaining 0 s)) :
    ∀ {n : Nat} {s : State}, OnScan n s → s.tbl = tbl → EndsWithin (11 * n + k) s (remaining n s)
  | 0, s, h, ht => (hend s h ht).mono (by omega)
  | n + 1, s, h, ht =>
    (endsWithin_granule h fun s' h' ht' => endsWithin_scan hend h' (ht'.trans ht)).mono (by omega)

/-! ## The passes of a walk (R131, R132, R149, R150) -/

/-- A pass from PASS_START on. -/
theorem endsWithin_pass {k : Nat} {tbl : BitVec 1}
    (hend : ∀ s : State, OnScan 0 s → s.tbl = tbl → EndsWithin k s (remaining 0 s)) {s : State} (h : Walking s)
    (hs : s.st = .passStart) (ht : s.tbl = tbl) :
    EndsWithin (1 + (11 * granulesPerPass + k)) s (delivery s (passStream s.window s.tbl s.root)) := by
  have hm : Moves 1 s (startPass s) := .single (h.step hs)
  by_cases hr : s.root = 0
  · rw [startPass_absent hr] at hm
    have hdone := hend (enterPassEnd s) ⟨⟨h.quiet, h.flush, h.consumer, h.memory⟩, rfl, rfl⟩ ht
    rw [passStream, if_pos hr]
    exact (hdone.of_moves hm rfl).mono (by omega)
  · rw [startPass_present hr] at hm
    rw [passStream_present s.window s.tbl hr]
    obtain ⟨n, hn⟩ : ∃ n, granulesPerPass = n + 1 := ⟨32767 + 4161536, rfl⟩
    have hscan : OnScan granulesPerPass { s with va := 0, st := .route } := by
      have hva : (0 : Wide).toNat + 1024 * (n + 1) = 0x100000000 := by rw [← hn]; rfl
      rw [hn]
      exact ⟨⟨h.quiet, h.flush, h.consumer, h.memory⟩, rfl, hva⟩
    exact (endsWithin_scan hend hscan ht).of_moves hm rfl

/-- The end of pass 1 is the end of the walk (R150). -/
theorem endsWithin_lastEnd {s : State} (h : OnScan 0 s) (ht : s.tbl = 1) : EndsWithin 5 s (remaining 0 s) := by
  obtain ⟨hw, hs, ho⟩ := h
  have hne : s.tbl ≠ 0 := ht ▸ by decide
  rw [remaining_zero, restStream, if_neg hne]
  refine endsWithin_item (k := 0) hw (.inr hs) ho fun c rs _ => ⟨_, .refl _, ?_⟩
  rw [consume_nil]
  exact ends_finishPass (s := s.settled _ c rs) hne

/-- Nothing follows pass 1. -/
theorem delivery_second {s : State} (ht : s.tbl = 1) (str : Stream) :
    delivery s str = consume s.coalescer s.tbl s.cur str := by
  have hne : s.tbl ≠ 0 := ht ▸ by decide
  obtain ⟨items, error⟩ := str
  rw [delivery, restStream, if_neg hne]
  cases error with
  | none => rw [Stream.andThen, List.append_nil]
  | some e => rfl

/-- Pass 1, to the end of the walk. -/
theorem endsWithin_secondPass {s : State} (h : Walking s) (hs : s.st = .passStart) (ht : s.tbl = 1) :
    EndsWithin (1 + (11 * granulesPerPass + 5)) s
      (consume s.coalescer s.tbl s.cur (passStream s.window s.tbl s.root)) := by
  rw [← delivery_second ht]
  exact endsWithin_pass (fun _ => endsWithin_lastEnd) h hs ht

/-- The end of pass 0 leads to pass 1 (R149). -/
theorem endsWithin_firstEnd {s : State} (h : OnScan 0 s) (ht : s.tbl = 0) :
    EndsWithin (5 + (1 + (11 * granulesPerPass + 5))) s (remaining 0 s) := by
  obtain ⟨hw, hs, ho⟩ := h
  rw [remaining_zero, restStream, if_pos ht]
  refine endsWithin_item hw (.inr hs) ho fun c rs hacc => ?_
  change ∃ t, Moves _ (finishPass (s.settled (.endOfPass s.tbl) c rs)) t ∧ _
  rw [finishPass_first (by exact ht), consume_after_end hacc]
  exact endsWithin_secondPass
    (s := { s.settled (.endOfPass s.tbl) c rs with tbl := 1, cur := Accumulator.zero, st := .passStart })
    ⟨hw.quiet, rfl, hw.consumer, hw.memory⟩ rfl rfl

/-- A walk from PASS_START of pass 0 on: two passes, fewer than 2^27 moves (R131). -/
theorem endsWithin_walk {s : State} (h : Walking s) (hs : s.st = .passStart) (ht : s.tbl = 0)
    (hc : s.cur = Accumulator.zero) :
    EndsWithin 0x7FFFFFF s (walkResult s.coalescer s.window s.snap.ttbr0 s.snap.ttbr1) := by
  have hwalk := (endsWithin_pass (fun _ => endsWithin_firstEnd) h hs ht).mono (k := 0x7FFFFFF) (by decide)
  have hroot : s.root = s.snap.ttbr0 := by rw [State.root, ConfigRegs.root, if_pos ht]
  rwa [delivery, restStream, if_pos ht, ht, hroot, hc, ← walkResult_eq] at hwalk

theorem step_start {s : State} {w : Word} {rest : List Input} (h : s.hostActs (.write 5 w) rest)
    (hw : w.getLsbD 0 = true) (hb : s.status.busy = false) (he : s.status.err = false) :
    step s = .next (beginWalk (s.afterInput rest)) := by
  rw [step_write h, hostWrite_ctrl_start _ hw]
  exact exec_start_accepted _ hb he

/-- Settles O38: START, and then the walk pass by pass and granule by granule. -/
theorem walkEqualsBigStep : Obligations.WalkEqualsBigStep := by
  intro s w hacts hw hstart hconsumer hmemory
  obtain ⟨hbusy, herr, hflush⟩ := hstart
  obtain ⟨t, hm, he⟩ := endsWithin_walk (s := beginWalk (s.afterInput []))
    ⟨⟨hacts.1, rfl⟩, hflush, hconsumer, hmemory⟩ rfl rfl rfl
  obtain ⟨n, hn, hrun⟩ := Moves.cons (step_start hacts hw hbusy herr) hm
  exact ⟨n, t, hn, hrun, he.delivers, he.cfg, fun k => congrArg (Memory.byte · k) he.image⟩

end Sys2Proof.Machine
end

section
/-! SUPPORT and PROOFS. First-level descriptors (spec/41_l1_descriptors.md R170 to R175): the class of each word, and what
running it leaves in the state. -/

namespace Sys2Proof.Machine

/-! ## The class of a word (R92, R98) -/

section
variable {d : Word}

theorem decodeL1_fault (h : d.extractLsb' 0 2 = 0) : decodeL1 d = .l1Fault (d.extractLsb' 2 30) := if_pos h

theorem decodeL1_pageTable (h : d.extractLsb' 0 2 = 1) : decodeL1 d = decodePageTable (pageTableFieldsOf d) := by
  rw [decodeL1, if_neg (by rw [h]; decide), if_pos h]

theorem decodeL1_section (h : d.extractLsb' 0 2 = 2) (h18 : d.getLsbD 18 = false) :
    decodeL1 d = .l1Section (sectionFieldsOf d) := by
  rw [← decodeL1_sectionWord, sectionWord_fieldsOf h h18]

theorem decodeL1_supersection (h : d.extractLsb' 0 2 = 2) (h18 : d.getLsbD 18 = true) :
    decodeL1 d = .l1Supersection (supersectionFieldsOf d) := by
  rw [← decodeL1_supersectionWord, supersectionWord_fieldsOf h h18]

theorem decodeL1_reserved (h : d.extractLsb' 0 2 = 3) : decodeL1 d = .l1Reserved (d.extractLsb' 2 30) := by
  rw [decodeL1, if_neg (by rw [h]; decide), if_neg (by rw [h]; decide), if_neg (by rw [h]; decide)]

theorem decodeL2_fault (h : d.extractLsb' 0 2 = 0) : decodeL2 d = .l2Fault (d.extractLsb' 2 30) := by
  rw [← decodeL2_restWord, restWord_fieldsOf h]

/-- Without a should-be-zero violation the Page Table row is the well-formed one (R140, R171). -/
theorem decodeL1_pageTable_wellFormed (h : d.extractLsb' 0 2 = 1) (hz : d.extractLsb' 1 4 = 0) :
    decodeL1 d = .l1PageTable (pageTableFieldsOf d) := by
  obtain ⟨h2, h3, h4⟩ := (sbz_zero h).mp hz
  rw [decodeL1_pageTable h]
  rcases decodePageTable_cases d with ⟨_, _, _, hb⟩ | ⟨_, _, _, _, hb⟩ | ⟨_, _, _, _, _, hb⟩ | ⟨hd, _⟩
  · exact absurd hb (by rw [h2]; decide)
  · exact absurd hb (by rw [h3]; decide)
  · exact absurd hb (by rw [h4]; decide)
  · exact hd

/-- With a should-be-zero violation the malformed row is that of the lowest bit set (R172). -/
theorem decodeL1_pageTable_malformed (h : d.extractLsb' 0 2 = 1) (hz : d.extractLsb' 1 4 ≠ 0) :
    decodeL1 d = .l1PageTableMalformedBit2 (pageTableFieldsOf d) ∧ d.getLsbD 2 = true ∨
    decodeL1 d = .l1PageTableMalformedBit3 (pageTableFieldsOf d) ∧ d.getLsbD 2 = false ∧ d.getLsbD 3 = true ∨
    decodeL1 d = .l1PageTableMalformedBit4 (pageTableFieldsOf d) ∧ d.getLsbD 2 = false ∧ d.getLsbD 3 = false ∧
      d.getLsbD 4 = true := by
  rw [decodeL1_pageTable h]
  rcases decodePageTable_cases d with ⟨f, hd, rfl, h2⟩ | ⟨f, hd, rfl, h2, h3⟩ | ⟨f, hd, rfl, h2, h3, h4⟩ |
    ⟨_, h2, h3, h4⟩
  · exact .inl ⟨hd, h2⟩
  · exact .inr (.inl ⟨hd, h2, h3⟩)
  · exact .inr (.inr ⟨hd, h2, h3, h4⟩)
  · exact absurd ((sbz_zero h).mpr ⟨h2, h3, h4⟩) hz

end

/-! ## Classes that skip the granule (R170, R175, R190) -/

/-- Settles O7: each class is decoded with its bits [31:2], and its meaning takes none of them. -/
theorem faultClassesSkip : Obligations.FaultClassesSkip := by
  refine fun d s => ⟨fun h => ⟨?_, exec_l1Fault _ s⟩, fun h => ⟨?_, exec_l1Reserved _ s⟩, fun h => ⟨?_, exec_l2Fault _ s⟩⟩
  · exact congrArg _ (decodeL1_fault h)
  · exact congrArg _ (decodeL1_reserved h)
  · exact congrArg _ (decodeL2_fault h)

/-! ## Page Table (R171, R172) -/

/-- The second-level address is latched whether or not the read succeeds (log entry 6). -/
theorem fetchL2_l2a (s : State) : (fetchL2 s).l2a = l2AddrNow s := by
  unfold fetchL2
  split <;> rfl

theorem fetchL2_dom (s : State) : (fetchL2 s).dom = s.dom := by
  unfold fetchL2
  split <;> rfl

theorem fetchL2_items (s : State) : (fetchL2 s).items = s.items :=
  congrArg (fun p => p.2.1) (progress_fetchL2 s)

theorem step_l2Fetch {s : State} (h : s.turn .l2Fetch) (hm : s.memoryReady = true) : step s = .next (fetchL2 s) := by
  rw [step_turn h, walkMove, hm, whenReady_true]

/-- From L1_DECODE a well-formed Page Table word leads in two moves through the second-level fetch (R151). -/
theorem run_two_of_pageTable {s : State} (h : s.turn .l1Decode) (hm : s.memoryReady = true)
    (ht : s.l1d.extractLsb' 0 2 = 1) (hz : s.l1d.extractLsb' 1 4 = 0) :
    Host.Core.run core 2 s = .next (fetchL2 { s with dom := s.l1d.extractLsb' 5 4, st := .l2Fetch }) := by
  have hdecode : step s = .next { s with dom := s.l1d.extractLsb' 5 4, st := .l2Fetch } :=
    (step_turn h).trans (exec_decodeL1_descend ht hz s)
  obtain ⟨hq, hf, _⟩ := h
  exact (run_succ hdecode).trans (run_succ (step_l2Fetch ⟨hq, hf, rfl⟩ hm))

/-- Settles O8: the decode move latches the domain, and the fetch that follows the address. -/
theorem pageTableDescends : Obligations.PageTableDescends := by
  refine fun d s ht hz => ⟨congrArg _ (decodeL1_pageTable_wellFormed ht hz), exec_l1PageTable _ s, ?_⟩
  rintro hturn rfl hm
  exact ⟨_, run_two_of_pageTable hturn hm ht hz, (fetchL2_l2a _).trans (l2AddrNow_word _), fetchL2_dom _, fetchL2_items _⟩

theorem exec_decodeL1_malformed {d : Word} (h : d.extractLsb' 0 2 = 1) (hz : d.extractLsb' 1 4 ≠ 0) (s : State) :
    exec (decodeL1 d) s = .next (raiseMalformed d s) := by
  rw [exec_decodeL1, if_neg (by rw [h]; decide), if_pos h, if_pos hz]

/-- Settles O9: the row is that of the lowest bit set, and every malformed row takes the fatal transition. -/
theorem malformedPageTableStops : Obligations.MalformedPageTableStops := by
  intro d s h hz _ hf
  refine ⟨decodeL1 d, rfl, decodeL1_pageTable_malformed h hz, ?_⟩
  rw [exec_decodeL1_malformed h hz, raiseMalformed, raise, ← hf]
  rfl

/-! ## Section and Supersection (R173, R174) -/

/-- Settles O10: the entry of the decoded fields is the spec's on the word. -/
theorem sectionEntry_holds : Obligations.SectionEntry := by
  refine fun d s h h18 => ⟨congrArg _ (decodeL1_section h h18), ?_⟩
  rw [exec_l1Section, sectionEntry_of_word]
  rfl

/-- Settles O11: the entry of the decoded fields is the spec's on the word, extension fields included. -/
theorem supersectionEntry_holds : Obligations.SupersectionEntry := by
  refine fun d s h h18 => ⟨congrArg _ (decodeL1_supersection h h18), ?_⟩
  rw [exec_l1Supersection, supersectionEntry_of_word]
  rfl

end Sys2Proof.Machine
end

section
/-! SUPPORT and PROOFS. Second-level descriptors (spec/42_l2_descriptors.md R191, R192): the page classes and their Mapping
Entries. -/

namespace Sys2Proof.Machine

/-! ## The class of a page word (R98) -/

theorem decodeL2_largePage {d : Word} (h : d.extractLsb' 0 2 = 1) : decodeL2 d = .l2LargePage (largePageFieldsOf d) := by
  rw [← decodeL2_largePageWord, largePageWord_fieldsOf h]

theorem decodeL2_smallPage {d : Word} (h1 : d.getLsbD 1 = true) : decodeL2 d = .l2SmallPage (smallPageFieldsOf d) :=
  if_pos h1

/-! ## Large Page and Small Page (R191, R192) -/

/-- Settles O12: the entry of the decoded fields is the spec's on the word. -/
theorem largePageEntry_holds : Obligations.LargePageEntry := by
  refine fun d s h => ⟨congrArg _ (decodeL2_largePage h), ?_⟩
  rw [exec_l2LargePage, largePageEntry_of_word]
  rfl

/-- Settles O13: bit 1 alone decides the class, so bit 0 is free to be execute-never. -/
theorem smallPageEntry_holds : Obligations.SmallPageEntry := by
  refine fun d s h1 => ⟨congrArg _ (decodeL2_smallPage h1), ?_⟩
  rw [exec_l2SmallPage, smallPageEntry_of_word]
  rfl

end Sys2Proof.Machine
end

section
/-! SUPPORT and PROOFS. The four decoders (spec/43_attribute_decoders.md R210 to R218): what each does in a flush and when
invoked directly, and that no two defined values share a label. -/

namespace Sys2Proof.Machine

/-! ## Access permission in a flush (R210, R211) -/

theorem exec_reservedAp {i : Instr} {v : BitVec 3}
    (h : (i, v) ∈ [(Instr.ap000Reserved, 0), (.ap010Reserved, 2), (.ap100Reserved, 4), (.ap110Reserved, 6),
      (.ap111Reserved, 7)]) (s : State) : exec i s = .next (failAccess v s) := by
  simp only [List.mem_cons, Prod.mk.injEq, List.not_mem_nil, or_false] at h
  rcases h with ⟨rfl, rfl⟩ | ⟨rfl, rfl⟩ | ⟨rfl, rfl⟩ | ⟨rfl, rfl⟩ | ⟨rfl, rfl⟩ <;> rfl

/-- Settles O17: a defined value delivers its label to the flush, a reserved one fails it. -/
theorem accessValuesInFlush : Obligations.AccessValuesInFlush := by
  intro s item c hd hf
  have label (p : AccessLabel) :=
    congrArg (Host.Outcome.next (φ := Fault) (ρ := Refusal)) (deliverAccess_flush p hd hf)
  refine ⟨label _, label _, label _, rfl, rfl, rfl, fun i v hi => ?_⟩
  rw [exec_reservedAp hi, failAccess_flush v hd hf]
  rfl

/-! ## Cache values in a flush (R212, R213) -/

theorem decodeTEXCB5_append (outer inner : BitVec 2) :
    decodeTEXCB5 (1#1 ++ outer ++ inner) = .texcbCached outer inner := by
  revert outer inner
  decide

/-- Of the values 2 to 15 the highest bit set names the row (R213). -/
theorem decodeTEXCB5_reserved : ∀ t : BitVec 5, 2 ≤ t.toNat → t.toNat ≤ 15 → decodeTEXCB5 t =
    if t.toNat ≤ 3 then .texcbReserved02 t else if t.toNat ≤ 7 then .texcbReserved04 t else .texcbReserved08 t := by
  decide

theorem exec_reservedTexcb {i : Instr} {t : BitVec 5}
    (h : i ∈ [Instr.texcbReserved02 t, .texcbReserved04 t, .texcbReserved08 t]) (s : State) :
    exec i s = .next (failCacheAttr t s) := by
  simp only [List.mem_cons, List.not_mem_nil, or_false] at h
  rcases h with rfl | rfl | rfl <;> rfl

/-- Settles O18: a defined value delivers its label to the flush, a reserved one fails it. -/
theorem cacheValuesInFlush : Obligations.CacheValuesInFlush := by
  intro s item hd hf
  have label (c : CacheLabel) :=
    congrArg (Host.Outcome.next (φ := Fault) (ρ := Refusal)) (deliverCacheAttr_flush c hd hf)
  refine ⟨label _, label _, fun outer inner => ⟨?_, label _, rfl⟩, rfl, rfl, fun _ => rfl,
    fun t h2 h15 => ⟨?_, fun i hi => ?_⟩⟩
  · exact congrArg _ (decodeTEXCB5_append outer inner)
  · exact congrArg _ (decodeTEXCB5_reserved t h2 h15)
  · rw [exec_reservedTexcb hi, failCacheAttr_flush t hd hf]
    rfl

/-! ## Execute-never in a flush (R215) -/

/-- Settles O19: either bit delivers its boolean to the flush. -/
theorem executeNeverInFlush : Obligations.ExecuteNeverInFlush := by
  intro s item c p hd hf
  have flag (x : Bool) :=
    congrArg (Host.Outcome.next (φ := Fault) (ρ := Refusal)) (deliverExecuteNever_flush x hd hf)
  exact ⟨flag _, flag _, rfl, rfl⟩

/-! ## Cacheability (R214) -/

/-- Settles O20: every row delivers its policy, whatever the state. -/
theorem cacheabilityIsTotal : Obligations.CacheabilityIsTotal :=
  fun s => ⟨exec_cache00 s, exec_cache01 s, exec_cache10 s, exec_cache11 s, rfl, rfl, rfl, rfl⟩

/-! ## Direct invocations (R218; log entry 9) -/

theorem step_direct {s : State} {q : AttrQuery} (h : s.direct = some q) :
    step s = (Action.run q.encoded s).outcome := by
  rw [step_eq_outcome, nextAction_direct h]

theorem step_direct_ap {s : State} {v : BitVec 3} (h : s.direct = some (.ap v)) :
    step s = .next { s with
      direct := none
      answers := { s.answers with
        access := (BigStep.decodeAp v).elim (.reserved (v.setWidth 32)) .label } } := by
  rw [step_direct h, AttrQuery.encoded, Action.outcome_ap, exec_decodeAP3]
  cases BigStep.decodeAp v with
  | some p => exact congrArg _ (deliverAccess_direct p h)
  | none => exact congrArg _ (failAccess_direct v h)

theorem step_direct_texcb {s : State} {t : BitVec 5} (h : s.direct = some (.texcb t)) :
    step s = .next { s with
      direct := none
      answers := { s.answers with
        cacheAttr := (BigStep.decodeTexcb t).elim (.reserved (t.setWidth 32)) .label } } := by
  rw [step_direct h, AttrQuery.encoded, Action.outcome_texcb, exec_decodeTEXCB5]
  cases BigStep.decodeTexcb t with
  | some c => exact congrArg _ (deliverCacheAttr_direct c h)
  | none => exact congrArg _ (failCacheAttr_direct t h)

/-- Settles O21: each decoder answers what its pure function gives, and the port is all that changes. -/
theorem directDecodersAnswer : Obligations.DirectDecodersAnswer := by
  refine fun s => ⟨fun v h => ?_, fun t h => ?_, fun c h => ?_, fun x h => ?_⟩
  · rw [step_direct_ap h, BigStep.decodeAp]
    split_ifs <;> rfl
  · rw [step_direct_texcb h, BigStep.decodeTexcb]
    split_ifs <;> rfl
  · rw [step_direct h, AttrQuery.encoded, Action.outcome_cache, exec_decodeCACHE2, deliverPolicy]
  · rw [step_direct h, AttrQuery.encoded, Action.outcome_xn, exec_decodeXN1, deliverExecuteNever_direct _ h,
      BigStep.decodeXn]

/-! ## Label texts (R216) -/

/-- No policy's text begins another's. -/
theorem policyText_prefix_free {p q : Policy} (h : p.text.toList <+: q.text.toList) : p = q := by
  revert h
  cases p <;> cases q <;> decide

/-- A text that begins with a policy's can be read in one way only. -/
theorem policyText_append_inj {p q : Policy} {l m : List Char} (h : p.text.toList ++ l = q.text.toList ++ m) :
    p = q ∧ l = m := by
  have hpq : p = q := by
    rcases List.prefix_or_prefix_of_prefix (List.prefix_append _ l) (h ▸ List.prefix_append _ m) with hp | hq
    · exact policyText_prefix_free hp
    · exact (policyText_prefix_free hq).symm
  subst hpq
  exact ⟨rfl, List.append_cancel_left h⟩

theorem cachedText_toList (outer inner : Policy) : (CacheLabel.cached outer inner).text.toList =
    "outer:".toList ++ (outer.text.toList ++ (" inner:".toList ++ inner.text.toList)) := by
  simp only [CacheLabel.text, String.toList_append, List.append_assoc]

theorem cachedText_inj {o i o' i' : Policy} (h : (CacheLabel.cached o i).text = (CacheLabel.cached o' i').text) :
    CacheLabel.cached o i = CacheLabel.cached o' i' := by
  have hl := congrArg String.toList h
  rw [cachedText_toList, cachedText_toList] at hl
  obtain ⟨rfl, hrest⟩ := policyText_append_inj (List.append_cancel_left hl)
  have hi : i = i' := policyText_prefix_free (by rw [List.append_cancel_left hrest])
  rw [hi]

/-- The first letter of a label tells its kind. -/
def CacheLabel.initial : CacheLabel → Char
  | .stronglyOrdered => 'S'
  | .device => 'D'
  | .cached _ _ => 'o'

theorem cacheLabelText_head (c : CacheLabel) : c.text.toList.head? = some c.initial := by
  cases c with
  | stronglyOrdered | device => rfl
  | cached o i => rw [cachedText_toList]; rfl

theorem cacheLabelText_inj {c c' : CacheLabel} (h : c.text = c'.text) : c = c' := by
  have hi : c.initial = c'.initial := by
    apply Option.some.inj
    rw [← cacheLabelText_head, ← cacheLabelText_head, h]
  cases c <;> cases c'
  case cached.cached => exact cachedText_inj h
  case stronglyOrdered.stronglyOrdered | device.device => rfl
  all_goals exact absurd hi (by simp [CacheLabel.initial])

theorem accessLabelText_inj {p q : AccessLabel} (h : p.text = q.text) : p = q := by
  revert h
  cases p <;> cases q <;> decide

/-! ## The decoders are injective on their defined values (R216) -/

theorem cacheability_inj : ∀ {c d : BitVec 2}, cacheability c = cacheability d → c = d := by decide

theorem texcb_eq_append : ∀ t : BitVec 5, t.getLsbD 4 = true → t = 1#1 ++ t.extractLsb' 2 2 ++ t.extractLsb' 0 2 := by
  decide

/-- A defined cache value is 0, 1, or bit 4 with the codes of the two policies (R212). -/
theorem decodeTexcb_cases {t : BitVec 5} {c : CacheLabel} (h : BigStep.decodeTexcb t = some c) :
    t = 0 ∧ c = .stronglyOrdered ∨ t = 1 ∧ c = .device ∨
      ∃ outer inner : BitVec 2, t = 1#1 ++ outer ++ inner ∧ c = .cached (cacheability outer) (cacheability inner) := by
  unfold BigStep.decodeTexcb at h
  split_ifs at h with h4 h1 h0
  · exact .inr (.inr ⟨_, _, texcb_eq_append t h4, (Option.some.inj h).symm⟩)
  · exact .inr (.inl ⟨h1, (Option.some.inj h).symm⟩)
  · exact .inl ⟨h0, (Option.some.inj h).symm⟩

theorem decodeTexcb_inj {t t' : BitVec 5} {c : CacheLabel} (h : BigStep.decodeTexcb t = some c)
    (h' : BigStep.decodeTexcb t' = some c) : t = t' := by
  rcases decodeTexcb_cases h with ⟨rfl, rfl⟩ | ⟨rfl, rfl⟩ | ⟨o, i, rfl, rfl⟩ <;>
    rcases decodeTexcb_cases h' with ⟨rfl, hc⟩ | ⟨rfl, hc⟩ | ⟨o', i', rfl, hc⟩
  case inl.inl | inr.inl.inr.inl => rfl
  case inr.inr.inr.inr =>
    obtain ⟨ho, hi⟩ := CacheLabel.cached.inj hc
    rw [cacheability_inj ho, cacheability_inj hi]
  all_goals cases hc

theorem decodeAp_inj {a a' : BitVec 3} {p : AccessLabel} : BigStep.decodeAp a = some p →
    BigStep.decodeAp a' = some p → a = a' := by
  revert a a'
  cases p <;> decide

theorem decodeXn_inj : ∀ {x x' : BitVec 1}, BigStep.decodeXn x = BigStep.decodeXn x' → x = x' := by decide

/-- Settles O22: equal texts are texts of one label, and one label is decoded from one value. -/
theorem labelsAreUnique : Obligations.LabelsAreUnique := by
  intro t t' a a' x x' c c' p p' hc hc' hp hp'
  have cache (h : c.text = c'.text) : t = t' := decodeTexcb_inj hc (cacheLabelText_inj h ▸ hc')
  have access (h : p.text = p'.text) : a = a' := decodeAp_inj hp (accessLabelText_inj h ▸ hp')
  refine ⟨cache, access, decodeXn_inj, fun h => ?_⟩
  obtain ⟨h1, h2, h3⟩ : c.text = c'.text ∧ p.text = p'.text ∧ BigStep.decodeXn x = BigStep.decodeXn x' := by
    simpa only [Prod.mk.injEq] using h
  rw [cache h1, access h2, decodeXn_inj h3]

end Sys2Proof.Machine
end

section
/-! SUPPORT and PROOFS. The range coalescer (spec/44_range_coalescer.md R230 to R241): what it does with an item, the four
moves of a flush, and the raw ranges of a list of entries. -/

namespace Sys2Proof.Machine

open BigStep

/-! ## The offset (R231) -/

/-- Settles O31: 41 bits hold every difference of a 40-bit and a 32-bit number. -/
theorem offsetIsExact : Obligations.OffsetIsExact := toInt_offsetOf

/-! ## Items (R232, R233, R234, R236) -/

/-- Two 41-bit offsets are equal exactly when the differences they stand for are, so R232 can be read in exact
arithmetic. -/
theorem extendedBy_iff_exact (c : Accumulator) (e : MappingEntry) : c.extendedBy e = true ↔
    c.valid = true ∧ (e.physicalAddress.toNat : Int) - (e.virtualAddress.toNat : Int) = c.off.toInt ∧
      e.accessPermission = c.ap ∧ e.executeNever = c.xn ∧ e.cacheAttrs = c.texcb ∧
      e.virtualAddress.toNat = c.vstart.toNat + c.size.toNat := by
  rw [extendedBy_iff, ← BitVec.toInt_inj, toInt_offsetOf]

/-- The coalescer takes what is on offer at once (R303). -/
theorem step_coalesceItem {s : State} {w : WalkState} {item : StreamItem} (h : s.turn w) (hw : w = .emit ∨ w = .passEnd)
    (ho : offered s = some item) (hc : s.coalescer = true) : step s = .next (coalesceItem item (s.taken item)) := by
  have hstep : step s = offerStep s := by rcases hw with rfl | rfl <;> exact step_turn h
  rw [hstep, offerStep_taken ho (consumerTakes_present hc), takeItem_present item hc, State.taken]

/-- Settles O32: the four cases of `coalesceItem`, with the test for extension in exact arithmetic. -/
theorem itemTakenByCoalescer : Obligations.ItemTakenByCoalescer := by
  refine ⟨fun s h hk hc hv => ?_, fun s h hk hc => ?_⟩
  · rw [step_coalesceItem h (.inr rfl) (offered_end hk) hc]
    exact congrArg _ (coalesceItem_endFlush hv)
  · rw [step_coalesceItem h (.inl rfl) (offered_entry hk) hc]
    refine ⟨fun hx => ?_, fun ⟨hv, hx⟩ => ?_, fun hv => ?_⟩
    · exact congrArg _ (coalesceItem_extend ((extendedBy_iff_exact s.cur s.ent).mpr hx))
    · have hno : s.cur.extendedBy s.ent = false := by
        rw [← Bool.not_eq_true, extendedBy_iff_exact]
        exact fun hyes => hx hyes.2
      exact congrArg _ (coalesceItem_flush hno hv)
    · exact congrArg _ (coalesceItem_first hv)

/-! ## A flush (R235) -/

section
variable {s : State} {item : StreamItem} {c : CacheLabel} {p : AccessLabel}

theorem step_flush_texcb_label (hq : s.quiet) (hf : s.flush = .texcb item) (hc : decodeTexcb s.cur.texcb = some c) :
    step s = .next { s with flush := .ap item c } := by
  rw [step_flush_texcb hq hf, exec_decodeTEXCB5, hc]
  exact congrArg _ (deliverCacheAttr_flush c hq.1 hf)

theorem step_flush_ap_label (hq : s.quiet) (hf : s.flush = .ap item c) (hp : decodeAp s.cur.ap = some p) :
    step s = .next { s with flush := .xn item c p } := by
  rw [step_flush_ap hq hf, exec_decodeAP3, hp]
  exact congrArg _ (deliverAccess_flush p hq.1 hf)

theorem step_flush_xn_label (hq : s.quiet) (hf : s.flush = .xn item c p) :
    step s = .next { s with flush := .emit item c p (decodeXn s.cur.xn) } := by
  rw [step_flush_xn hq hf, exec_decodeXN1, deliverExecuteNever_flush _ hq.1 hf]

/-- The four moves of a flush whose labels are both defined. -/
theorem run_four_of_flush (hq : s.quiet) (hr : s.consumerReady = true) (hf : s.flush = .texcb item)
    (hc : decodeTexcb s.cur.texcb = some c) (hp : decodeAp s.cur.ap = some p) : Host.Core.run core 4 s =
    .next (finishItem item (s.cur.renewed item) [s.cur.merged c p (decodeXn s.cur.xn)] s) := by
  have h1 := step_flush_texcb_label hq hf hc
  have h2 := step_flush_ap_label (s := { s with flush := .ap item c }) hq rfl hp
  have h3 := step_flush_xn_label (s := { s with flush := .xn item c p }) hq rfl
  have h4 := step_flush_emit (s := { s with flush := .emit item c p (decodeXn s.cur.xn) }) hq hr rfl
  exact (run_succ h1).trans ((run_succ h2).trans ((run_succ h3).trans (run_succ h4)))

end

theorem finishItem_endFirst {s : State} (t : BitVec 1) (c : Accumulator) (rs : List MergedRange) (h : s.tbl = 0) :
    finishItem (.endOfPass t) c rs s =
      { s with ranges := s.ranges ++ rs, flush := .idle, tbl := 1, cur := Accumulator.zero, st := .passStart } :=
  finishPass_first h

theorem finishItem_endSecond {s : State} (t : BitVec 1) (c : Accumulator) (rs : List MergedRange) (h : s.tbl ≠ 0) :
    finishItem (.endOfPass t) c rs s =
      { s with
        ranges := s.ranges ++ rs, flush := .idle, cur := c, st := .done, status := s.status.finished } :=
  finishPass_second h

/-- Settles O33: four moves emit the range, and the item that caused the flush says how the walker goes on. -/
theorem flushEmitsRange : Obligations.FlushEmitsRange := by
  intro s item c p hq hr hf hc hp
  have hrun := run_four_of_flush hq hr hf hc hp
  cases item with
  | entry e =>
    refine ⟨_, hrun, ?_⟩
    and_intros <;> rfl
  | endOfPass t =>
    by_cases ht : s.tbl = 0
    · rw [finishItem_endFirst t _ _ ht] at hrun
      refine ⟨_, hrun, rfl, rfl, rfl, rfl, rfl, rfl, rfl, fun _ => ⟨rfl, rfl, rfl, rfl⟩, fun h1 => ?_⟩
      exact absurd (ht.symm.trans h1) (by decide)
    · rw [finishItem_endSecond t _ _ ht] at hrun
      exact ⟨_, hrun, rfl, rfl, rfl, rfl, rfl, rfl, rfl, fun h0 => absurd h0 ht, fun h1 => ⟨h1, rfl, rfl⟩⟩

/-! ## The bounds of a range (R241) -/

/-- The exclusive end of a range of at most 2^32 bytes does not wrap (R112). -/
theorem toNat_merged_virtualEnd {a : Accumulator} (h : a.size.toNat ≤ 0x100000000) (c : CacheLabel) (p : AccessLabel)
    (x : Bool) : (a.merged c p x).virtualEnd.toNat = a.vstart.toNat + a.size.toNat := by
  have hsum := toNat_setWidth_add (a := a.vstart) (b := a.size) (m := 33) (by decide) (by decide) h
  rwa [BitVec.setWidth_eq] at hsum

/-- Settles O57, from the invariant: a range lies within the routed part of its pass. -/
theorem rangeBounds : Obligations.RangeBounds := by
  intro s c p x h hv
  obtain ⟨-, hpos, hmod, -, hle, h0, h1⟩ := h.cur_ok hv
  have hend := toNat_merged_virtualEnd (a := s.cur) (by omega) c p x
  refine ⟨hpos, hmod, fun ht => ?_, fun ht => ?_, hend, hend ▸ hle⟩
  · have := h0 ht
    omega
  · have := h1 ht
    omega

/-! ## The raw ranges of a list of entries (R232 to R236, R240) -/

/-- The accumulator holds a range, in whole granules (R40). -/
def Accumulator.Open (c : Accumulator) : Prop := c.valid = true ∧ c.size.toNat % 1024 = 0

theorem toNat_granule : granule.toNat = 1024 := rfl

theorem Accumulator.Open.startedBy (e : MappingEntry) : (Accumulator.startedBy e).Open := by
  rw [Accumulator.Open, Accumulator.startedBy_size, toNat_granule]
  exact ⟨Accumulator.startedBy_valid e, rfl⟩

/-- A range that an entry extends ends below 2^32, so its size does not wrap (R233). -/
theorem toNat_extend_size {c : Accumulator} {e : MappingEntry} (hx : c.extendedBy e = true) :
    c.extend.size.toNat = c.size.toNat + 1024 := by
  obtain ⟨-, -, -, -, -, hend⟩ := (extendedBy_iff c e).mp hx
  have hlt := e.virtualAddress.isLt
  rw [Accumulator.extend_size, toNat_add_granule (by omega)]

theorem Accumulator.Open.extend {c : Accumulator} {e : MappingEntry} (h : c.Open) (hx : c.extendedBy e = true) :
    c.extend.Open := by
  obtain ⟨hv, hmod⟩ := h
  refine ⟨(c.extend_valid).trans hv, ?_⟩
  rw [toNat_extend_size hx]
  omega

/-- From an accumulator that holds a range, these entries and the end of the pass give these raw ranges: one rule per
case of R232 to R236. -/
inductive Coalesced : Accumulator → List MappingEntry → List Accumulator → Prop
  | last {c : Accumulator} (ho : c.Open) : Coalesced c [] [c]
  | extend {c : Accumulator} {e : MappingEntry} {es : List MappingEntry} {rs : List Accumulator} (ho : c.Open)
      (hx : c.extendedBy e = true) (h : Coalesced c.extend es rs) : Coalesced c (e :: es) rs
  | flush {c : Accumulator} {e : MappingEntry} {es : List MappingEntry} {rs : List Accumulator} (ho : c.Open)
      (hx : c.extendedBy e = false) (h : Coalesced (.startedBy e) es rs) : Coalesced c (e :: es) (c :: rs)

theorem coalesced_rawRangesFrom {c : Accumulator} (ho : c.Open) (es : List MappingEntry) :
    Coalesced c es (rawRangesFrom c es) := by
  induction es generalizing c with
  | nil =>
    rw [rawRangesFrom, if_pos ho.1]
    exact .last ho
  | cons e es ih =>
    rw [rawRangesFrom]
    split_ifs with hx hv
    · exact .extend ho hx (ih (ho.extend hx))
    · exact .flush ho (by simpa using hx) (ih (.startedBy e))
    · exact absurd ho.1 hv

/-- A pass starts without a range: its first entry starts one. -/
theorem coalesced_rawRanges (e : MappingEntry) (es : List MappingEntry) :
    Coalesced (.startedBy e) es (rawRanges (e :: es)) :=
  coalesced_rawRangesFrom (.startedBy e) es

/-! ### Expanding ranges (R240 (a)) -/

/-- The address that extends a range is that of the granule after its last one. -/
theorem expandAt_of_extendedBy {c : Accumulator} {e : MappingEntry} (hmod : c.size.toNat % 1024 = 0)
    (hx : c.extendedBy e = true) : expandAt c (c.size.toNat / 1024) = e := by
  obtain ⟨-, hoff, hap, hxn, htexcb, hend⟩ := (extendedBy_iff c e).mp hx
  have hva : c.vstart + BitVec.ofNat 32 (1024 * (c.size.toNat / 1024)) = e.virtualAddress := by
    have hlt := e.virtualAddress.isLt
    apply BitVec.eq_of_toNat_eq
    rw [BitVec.toNat_add, BitVec.toNat_ofNat]
    omega
  rw [expandAt, hva, ← hoff, virtual_add_offsetOf, BitVec.setWidth_setWidth_of_le _ (by decide), BitVec.setWidth_eq,
    ← hap, ← hxn, ← htexcb]

theorem expand_startedBy (e : MappingEntry) : expand (.startedBy e) = [e] := by
  have hpa : ((e.virtualAddress.setWidth 41 + offsetOf e).setWidth 40 : PAddr) = e.physicalAddress := by
    rw [virtual_add_offsetOf, BitVec.setWidth_setWidth_of_le _ (by decide), BitVec.setWidth_eq]
  have hat : expandAt (.startedBy e) 0 = e := by simp [expandAt, hpa]
  rw [expand, Accumulator.startedBy_size, toNat_granule, List.range_one, List.map_singleton, hat]

theorem expand_extend {c : Accumulator} {e : MappingEntry} (hmod : c.size.toNat % 1024 = 0)
    (hx : c.extendedBy e = true) : expand c.extend = expand c ++ [e] := by
  have hsize : c.extend.size.toNat / 1024 = c.size.toNat / 1024 + 1 := by
    rw [toNat_extend_size hx]
    omega
  have hat : expandAt c.extend = expandAt c := by
    funext k
    simp [expandAt]
  rw [expand, hsize, hat, List.range_succ, List.map_append, List.map_singleton, expandAt_of_extendedBy hmod hx, expand]

theorem Coalesced.flatMap_expand {c : Accumulator} {es : List MappingEntry} {rs : List Accumulator}
    (h : Coalesced c es rs) : rs.flatMap expand = expand c ++ es := by
  induction h with
  | last => simp
  | extend ho hx _ ih => rw [ih, expand_extend ho.2 hx, List.append_assoc, List.singleton_append]
  | flush _ _ _ ih => rw [List.flatMap_cons, ih, expand_startedBy, List.singleton_append]

theorem flatMap_expand_rawRanges (es : List MappingEntry) : (rawRanges es).flatMap expand = es := by
  cases es with
  | nil => rfl
  | cons e es => rw [(coalesced_rawRanges e es).flatMap_expand, expand_startedBy, List.singleton_append]

/-- Settles O35: expansion undoes coalescing, so coalescing the expansion changes nothing. -/
theorem coalescingIdempotent : Obligations.CoalescingIdempotent := fun es =>
  ⟨flatMap_expand_rawRanges es, congrArg rawRanges (flatMap_expand_rawRanges es)⟩

/-! ### Maximality and total size (R240 (b), (c)) -/

/-- The second range continues the first: the two could have been one. -/
def Mergeable (c c' : Accumulator) : Prop :=
  c'.off = c.off ∧ c'.ap = c.ap ∧ c'.xn = c.xn ∧ c'.texcb = c.texcb ∧ c'.vstart.toNat = c.vstart.toNat + c.size.toNat

/-- Whatever size it grows to, a range that an entry starts continues the range before only if the entry does. -/
theorem extendedBy_of_mergeable {c : Accumulator} {e : MappingEntry} {n : Wide} (hv : c.valid = true)
    (h : Mergeable c { Accumulator.startedBy e with size := n }) : c.extendedBy e = true :=
  (extendedBy_iff c e).mpr ⟨hv, h⟩

/-- The range in the accumulator is the first to be flushed, grown but otherwise as it is. -/
theorem Coalesced.head {c : Accumulator} {es : List MappingEntry} {rs : List Accumulator} (h : Coalesced c es rs) :
    ∃ n rest, rs = { c with size := n } :: rest := by
  induction h with
  | @last c _ => exact ⟨c.size, [], rfl⟩
  | @extend c _ _ _ _ _ _ ih => rwa [Accumulator.extend] at ih
  | @flush c _ _ rs _ _ _ _ => exact ⟨c.size, rs, rfl⟩

theorem Coalesced.isChain {c : Accumulator} {es : List MappingEntry} {rs : List Accumulator} (h : Coalesced c es rs) :
    rs.IsChain fun c c' => ¬ Mergeable c c' := by
  induction h with
  | last => exact .singleton _
  | extend _ _ _ ih => exact ih
  | flush ho hx h ih =>
    obtain ⟨n, rest, rfl⟩ := h.head
    exact .cons_cons (fun hm => by simp [extendedBy_of_mergeable ho.1 hm] at hx) ih

theorem isChain_rawRanges (es : List MappingEntry) : (rawRanges es).IsChain fun c c' => ¬ Mergeable c c' := by
  cases es with
  | nil => exact .nil
  | cons e es => exact (coalesced_rawRanges e es).isChain

theorem Coalesced.sum_size {c : Accumulator} {es : List MappingEntry} {rs : List Accumulator} (h : Coalesced c es rs) :
    (rs.map fun c => c.size.toNat).sum = c.size.toNat + 1024 * es.length := by
  induction h with
  | last => simp
  | extend _ hx _ ih =>
    rw [ih, toNat_extend_size hx, List.length_cons]
    omega
  | flush _ _ _ ih =>
    rw [List.map_cons, List.sum_cons, ih, Accumulator.startedBy_size, toNat_granule, List.length_cons]
    omega

theorem sum_size_rawRanges (es : List MappingEntry) :
    ((rawRanges es).map fun c => c.size.toNat).sum = 1024 * es.length := by
  cases es with
  | nil => rfl
  | cons e es =>
    rw [(coalesced_rawRanges e es).sum_size, Accumulator.startedBy_size, toNat_granule, List.length_cons]
    omega

/-- Settles O36: a range is flushed only by an entry that does not continue it, and each entry adds one granule. -/
theorem rangesAreMaximal : Obligations.RangesAreMaximal := by
  refine fun es => ⟨fun k c c' hc hc' => ?_, sum_size_rawRanges es⟩
  obtain ⟨hlt, rfl⟩ := List.getElem?_eq_some_iff.mp hc'
  obtain ⟨-, rfl⟩ := List.getElem?_eq_some_iff.mp hc
  exact (isChain_rawRanges es).getElem k hlt

/-! ### What the coalescer emits for a pass (R235, R236) -/

theorem coalesceStream_cons_ranges {c c' : Accumulator} {item : StreamItem} {rs : List MergedRange}
    (h : coalesceOne c item = .ok (c', rs)) (tbl : BitVec 1) (items : List StreamItem)
    (err : Option (BitVec 1 × ErrInfo)) : (coalesceStream tbl c (item :: items) err).ranges =
      rs ++ (coalesceStream (tableAfter tbl item) c' items err).ranges :=
  congrArg Result.ranges (consume_cons_ok (coalescer := true) h ⟨items, err⟩)

theorem coalesceOne_extend {c : Accumulator} {e : MappingEntry} (hx : c.extendedBy e = true) :
    coalesceOne c (.entry e) = .ok (c.extend, []) := if_pos hx

theorem coalesceOne_flush {c : Accumulator} {e : MappingEntry} {r : MergedRange} (hv : c.valid = true)
    (hx : c.extendedBy e = false) (hr : flushRange c = .ok r) :
    coalesceOne c (.entry e) = .ok (.startedBy e, [r]) := by
  simp [coalesceOne, hx, hv, hr, Except.map]

theorem coalesceOne_endFlush {c : Accumulator} {r : MergedRange} (hv : c.valid = true) (hr : flushRange c = .ok r)
    (tbl : BitVec 1) : coalesceOne c (.endOfPass tbl) = .ok (c.emptied, [r]) := by
  simp [coalesceOne, hv, hr, Except.map]

/-- The stream of one pass (R111). -/
def passItems (tbl : BitVec 1) (es : List MappingEntry) : List StreamItem := es.map .entry ++ [.endOfPass tbl]

theorem Coalesced.ranges_coalesceStream {c : Accumulator} {es : List MappingEntry} {rs : List Accumulator}
    {f : Accumulator → MergedRange} (h : Coalesced c es rs) (hf : ∀ c ∈ rs, flushRange c = .ok (f c)) (tbl : BitVec 1) :
    (coalesceStream tbl c (passItems tbl es) none).ranges = rs.map f := by
  induction h with
  | @last c ho => exact coalesceStream_cons_ranges (coalesceOne_endFlush ho.1 (hf c (by simp)) tbl) tbl [] none
  | extend _ hx _ ih =>
    exact (coalesceStream_cons_ranges (coalesceOne_extend hx) tbl _ none).trans (ih hf)
  | @flush c _ _ _ ho hx _ ih =>
    rw [List.map_cons, ← ih fun c' hc' => hf c' (List.mem_cons_of_mem _ hc')]
    exact coalesceStream_cons_ranges (coalesceOne_flush ho.1 hx (hf c (by simp))) tbl _ none

/-- Settles O37, by induction on how the raw ranges come about. -/
theorem coalescerEmitsRawRanges : Obligations.CoalescerEmitsRawRanges := by
  intro es tbl f hf
  cases es with
  | nil => rfl
  | cons e es => exact (coalesced_rawRanges e es).ranges_coalesceStream hf tbl

end Sys2Proof.Machine
end

section
/-! SUPPORT and PROOFS. Exceptions (spec/60_exceptions.md R250 to R262): what causes the fatal transition, that nothing else
sets ERR, and that only reset ends it. -/

namespace Sys2Proof.Machine

/-! ## The causes (R250) -/

/-- The five ways into the fatal transition: the recorded values, and the two address latches as the cause leaves them
(log entry 6). -/
inductive Cause (s : State) : ErrInfo → Word → Word → Prop
  | l1Fetch (hs : s.st = .l1Fetch)
      (hb : inBounds s.snap.imgBase s.snap.imgLen (l1Addr s.tbl s.root (va32 s.va)) = false) :
      Cause s (.outOfBounds 0 (va32 s.va) (l1Addr s.tbl s.root (va32 s.va))) (l1Addr s.tbl s.root (va32 s.va)) s.l2a
  | l2Fetch (hs : s.st = .l2Fetch) (hb : inBounds s.snap.imgBase s.snap.imgLen (l2AddrNow s) = false) :
      Cause s (.outOfBounds 1 (va32 s.va) (l2AddrNow s)) s.l1a (l2AddrNow s)
  | malformed (hs : s.st = .l1Decode) (ht : s.l1d.extractLsb' 0 2 = 1) (hz : s.l1d.extractLsb' 1 4 ≠ 0) :
      Cause s (.malformed (va32 s.va) s.l1a s.l1d) s.l1a s.l2a
  | reservedTEXCB (item : StreamItem) (hf : s.flush = .texcb item) (hv : BigStep.decodeTexcb s.cur.texcb = none) :
      Cause s (.reservedTEXCB s.cur.vstart s.cur.texcb) s.l1a s.l2a
  | reservedAP (item : StreamItem) (c : CacheLabel) (hf : s.flush = .ap item c)
      (hv : BigStep.decodeAp s.cur.ap = none) : Cause s (.reservedAP s.cur.vstart s.cur.ap) s.l1a s.l2a

/-- The fatal transition was taken (R258), for one of the causes. -/
def Fails (s t : State) : Prop :=
  ∃ e a₁ a₂ inputs, Cause s e a₁ a₂ ∧ t = raise e { s with l1a := a₁, l2a := a₂, inputs := inputs }

/-- No cause looks at what the environment does next. -/
theorem Cause.of_afterInput {s : State} {rest : List Input} {e : ErrInfo} {a₁ a₂ : Word}
    (h : Cause (s.afterInput rest) e a₁ a₂) : Cause s e a₁ a₂ := by
  cases h with
  | l1Fetch hs hb => exact .l1Fetch hs hb
  | l2Fetch hs hb => exact .l2Fetch hs hb
  | malformed hs ht hz => exact .malformed hs ht hz
  | reservedTEXCB item hf hv => exact .reservedTEXCB item hf hv
  | reservedAP item c hf hv => exact .reservedAP item c hf hv

theorem Fails.of_afterInput {s t : State} {rest : List Input} (h : Fails (s.afterInput rest) t) : Fails s t := by
  obtain ⟨e, a₁, a₂, inputs, hc, rfl⟩ := h
  exact ⟨e, a₁, a₂, inputs, hc.of_afterInput, rfl⟩

theorem decodeTexcb_eq_none : ∀ t : BitVec 5, BigStep.decodeTexcb t = none → 2 ≤ t.toNat ∧ t.toNat ≤ 15 := by
  decide

theorem decodeAp_eq_none : ∀ v : BitVec 3, BigStep.decodeAp v = none → v.toNat ∈ [0, 2, 4, 6, 7] := by
  decide

theorem inBounds_of_fetchWord_none {s : State} {a : Word} (h : fetchWord s a = none) :
    inBounds s.snap.imgBase s.snap.imgLen a = false := by
  simpa [fetchWord, memRead] using h

/-! ## Moves that leave ERR alone -/

theorem err_finishPass (s : State) : (finishPass s).status.err = s.status.err := by
  unfold finishPass
  split <;> rfl

theorem err_releaseWalker (item : StreamItem) (s : State) : (releaseWalker item s).status.err = s.status.err := by
  cases item with
  | entry e => rfl
  | endOfPass t => exact err_finishPass s

theorem err_coalesceItem (item : StreamItem) (s : State) : (coalesceItem item s).status.err = s.status.err := by
  cases item with
  | entry e =>
    dsimp only [coalesceItem]
    split_ifs <;> rfl
  | endOfPass t =>
    dsimp only [coalesceItem]
    split_ifs
    · rfl
    · exact err_releaseWalker _ _

theorem err_takeItem (item : StreamItem) (s : State) : (takeItem item s).status.err = s.status.err := by
  unfold takeItem
  split
  · exact err_coalesceItem _ _
  · exact err_releaseWalker _ _

theorem err_finishFlush (item : StreamItem) (c : CacheLabel) (p : AccessLabel) (x : Bool) (s : State) :
    (finishFlush item c p x s).status.err = s.status.err := by
  cases item <;> exact err_releaseWalker _ _

theorem err_startPass (s : State) : (startPass s).status.err = s.status.err := by
  unfold startPass
  split <;> rfl

theorem err_routeGranule (s : State) : (routeGranule s).status.err = s.status.err := by
  unfold routeGranule
  split <;> rfl

theorem err_advance (s : State) : (advance s).status.err = s.status.err := by
  by_cases h : s.va + granule = scanEnd
  · rw [advance_end h, enterPassEnd_status]
  · rw [advance_on h]

/-! ## A move of the block leaves ERR alone or fails by a cause (R250, R258) -/

/-- ERR is as it was, or one of the causes has set it. -/
def KeepsErrOrFails (s t : State) : Prop := t.status.err = s.status.err ∨ Fails s t

theorem keepsErrOrFails_whenReady {s : State} (ready : Bool) {move : State → State} (h : KeepsErrOrFails s (move s)) :
    KeepsErrOrFails s (whenReady ready move s) := by
  cases ready
  · exact .inl rfl
  · exact h

theorem keepsErrOrFails_fetchL1 {s : State} (hs : s.st = .l1Fetch) : KeepsErrOrFails s (fetchL1 s) := by
  cases hw : fetchWord s (l1Addr s.tbl (s.snap.root s.tbl) (va32 s.va)) with
  | some w => rw [fetchL1_inside hw]; exact .inl rfl
  | none => exact .inr ⟨_, _, _, _, .l1Fetch hs (inBounds_of_fetchWord_none hw), fetchL1_outside hw⟩

theorem keepsErrOrFails_fetchL2 {s : State} (hs : s.st = .l2Fetch) : KeepsErrOrFails s (fetchL2 s) := by
  cases hw : fetchWord s (l2AddrNow s) with
  | some w => rw [fetchL2_inside hw]; exact .inl rfl
  | none => exact .inr ⟨_, _, _, _, .l2Fetch hs (inBounds_of_fetchWord_none hw), fetchL2_outside hw⟩

theorem keepsErrOrFails_l1Decode {s t : State} (hs : s.st = .l1Decode) (h : exec (decodeL1 s.l1d) s = .next t) :
    KeepsErrOrFails s t := by
  rcases exec_decodeL1_cases s.l1d s with ⟨-, hx⟩ | ⟨ht, hz, hx⟩ | ⟨-, -, -, hx⟩ | ⟨-, -, hx⟩ | ⟨-, -, hx⟩ <;>
    obtain rfl := Host.Outcome.next.inj (hx.symm.trans h)
  case inr.inl => exact .inr ⟨_, _, _, _, .malformed hs ht hz, rfl⟩
  all_goals exact .inl rfl

theorem keepsErrOrFails_l2Decode {s t : State} (h : exec (decodeL2 s.l2d) s = .next t) : KeepsErrOrFails s t := by
  rcases exec_decodeL2_cases s.l2d s with ⟨-, hx⟩ | ⟨-, hx⟩ | ⟨-, hx⟩ <;>
    obtain rfl := Host.Outcome.next.inj (hx.symm.trans h) <;> exact .inl rfl

theorem keepsErrOrFails_offerStep {s t : State} (h : offerStep s = .next t) : KeepsErrOrFails s t := by
  cases ho : offered s with
  | none => simp [offerStep, ho] at h
  | some item =>
    obtain rfl := Host.Outcome.next.inj ((offerStep_some ho).symm.trans h)
    exact keepsErrOrFails_whenReady _ (.inl (err_takeItem item s))

/-- The walk state machine's move, in each of its states (R151). -/
theorem keepsErrOrFails_walkMove {s t : State} (h : walkMove s s.st = .next t) : KeepsErrOrFails s t := by
  cases hs : s.st <;> simp only [hs, walkMove] at h
  case l1Decode => exact keepsErrOrFails_l1Decode hs h
  case l2Decode => exact keepsErrOrFails_l2Decode h
  case emit | passEnd => exact keepsErrOrFails_offerStep h
  all_goals obtain rfl := Host.Outcome.next.inj h
  case passStart => exact .inl (err_startPass s)
  case route => exact .inl (err_routeGranule s)
  case l1Fetch => exact keepsErrOrFails_whenReady _ (keepsErrOrFails_fetchL1 hs)
  case l2Fetch => exact keepsErrOrFails_whenReady _ (keepsErrOrFails_fetchL2 hs)
  case advance => exact .inl (err_advance s)
  case idle | done | error => exact .inl rfl

/-- The cache decoder's part of a flush (R212, R213). -/
theorem keepsErrOrFails_flushTexcb {s t : State} (hd : s.direct = none) {item : StreamItem} (hf : s.flush = .texcb item)
    (h : exec (decodeTEXCB5 s.cur.texcb) s = .next t) : KeepsErrOrFails s t := by
  rw [exec_decodeTEXCB5] at h
  obtain rfl := Host.Outcome.next.inj h
  cases hc : BigStep.decodeTexcb s.cur.texcb with
  | some c => simp only [deliverCacheAttr_flush c hd hf]; exact .inl rfl
  | none => exact .inr ⟨_, _, _, _, .reservedTEXCB item hf hc, failCacheAttr_flush _ hd hf⟩

/-- The access decoder's part of a flush (R210, R211). -/
theorem keepsErrOrFails_flushAp {s t : State} (hd : s.direct = none) {item : StreamItem} {c : CacheLabel}
    (hf : s.flush = .ap item c) (h : exec (decodeAP3 s.cur.ap) s = .next t) : KeepsErrOrFails s t := by
  rw [exec_decodeAP3] at h
  obtain rfl := Host.Outcome.next.inj h
  cases hp : BigStep.decodeAp s.cur.ap with
  | some p => simp only [deliverAccess_flush p hd hf]; exact .inl rfl
  | none => exact .inr ⟨_, _, _, _, .reservedAP item c hf hp, failAccess_flush _ hd hf⟩

theorem keepsErrOrFails_blockAction {s t : State} (hd : s.direct = none) (h : (blockAction s).outcome = .next t) :
    KeepsErrOrFails s t := by
  cases hf : s.flush with
  | idle => exact keepsErrOrFails_walkMove ((outcome_blockAction_walk hf).symm.trans h)
  | texcb item => exact keepsErrOrFails_flushTexcb hd hf (by rwa [blockAction_texcb hf] at h)
  | ap item c => exact keepsErrOrFails_flushAp hd hf (by rwa [blockAction_ap hf] at h)
  | xn item c p =>
    rw [blockAction_xn hf, Action.outcome_xn, exec_decodeXN1, deliverExecuteNever_flush _ hd hf] at h
    obtain rfl := Host.Outcome.next.inj h
    exact .inl rfl
  | emit item c p x =>
    rw [blockAction_emit hf] at h
    obtain rfl := Host.Outcome.next.inj h
    exact keepsErrOrFails_whenReady _ (.inl (err_finishFlush item c p x s))

/-! ## Into ERROR (R250, R258) -/

/-- Only the block's own move sets ERR. -/
theorem fails_of_step {s t : State} (he : s.status.err = false) (h : step s = .next t) (ht : t.status.err = true) :
    Fails s t := by
  have hset : t.status.err ≠ s.status.err := by simp [he, ht]
  rcases step_cases h with ⟨-, a, rfl⟩ | ⟨hd, -, hb⟩ | ⟨hd, rest, -, hb⟩ | ⟨-, i, rest, r', -, rfl⟩ |
    ⟨-, reg, v, rest, c, -, -, -, rfl⟩ | ⟨-, v, rest, -, -, -, rfl⟩ | ⟨-, reg, rest, l, -, rfl⟩ |
    ⟨-, rest, -, rfl⟩ | ⟨-, cells, rest, -, -, rfl⟩ | ⟨-, q, rest, -, rfl⟩ | ⟨-, ready, rest, -, rfl⟩ |
    ⟨-, ready, rest, -, rfl⟩
  case inr.inl => exact (keepsErrOrFails_blockAction hd hb).resolve_left hset
  case inr.inr.inl =>
    exact ((keepsErrOrFails_blockAction (s := s.afterInput rest) hd hb).resolve_left hset).of_afterInput
  case inr.inr.inr.inr.inr.inr.inr.inl => cases ht
  all_goals exact absurd rfl hset

/-- Settles O41: the step took the fatal transition, and its cause names the values. -/
theorem errorsHaveTheirCause : Obligations.ErrorsHaveTheirCause := by
  intro s t h he hstep herr
  obtain ⟨-, hdone⟩ := (consistencyIsKept s t h hstep).status_error herr
  obtain ⟨e, a₁, a₂, inputs, hc, rfl⟩ := fails_of_step he hstep herr
  refine ⟨rfl, rfl, hdone, rfl, rfl, rfl, rfl, rfl, rfl, rfl, rfl, rfl, rfl, rfl, rfl, rfl, rfl, rfl, rfl, rfl, rfl, rfl,
    rfl, rfl, rfl, ?_, ?_⟩
  · cases hc with
    | l1Fetch hs hb => exact .inr (.inl ⟨hs, rfl, rfl⟩)
    | l2Fetch hs hb => exact .inr (.inr ⟨hs, rfl, rfl⟩)
    | malformed | reservedTEXCB | reservedAP => exact .inl ⟨rfl, rfl⟩
  · cases hc with
    | l1Fetch hs hb => exact .inl ⟨hs, hb, rfl, rfl, rfl, rfl, rfl⟩
    | l2Fetch hs hb => exact .inr (.inl ⟨hs, hb, rfl, rfl, rfl, rfl, rfl⟩)
    | malformed hs ht hz => exact .inr (.inr (.inl ⟨hs, ht, hz, rfl, rfl, rfl, rfl, rfl⟩))
    | reservedTEXCB item hf hv =>
      obtain ⟨h2, h15⟩ := decodeTexcb_eq_none _ hv
      exact .inr (.inr (.inr (.inl ⟨⟨item, hf⟩, h2, h15, rfl, rfl, rfl, rfl, rfl⟩)))
    | reservedAP item c hf hv =>
      exact .inr (.inr (.inr (.inr ⟨⟨item, c, hf⟩, decodeAp_eq_none _ hv, rfl, rfl, rfl, rfl, rfl⟩)))

/-! ## Out of ERROR (R261, R262) -/

/-- In ERROR the block does not move. -/
theorem Consistent.blockAction_error {s : State} (h : Consistent s) (hs : s.st = .error) :
    (Machine.blockAction s).outcome = .next s := by
  have hf : s.flush = .idle := (h.nothing_offered (by simp [hs]) (by simp [hs])).2
  rw [outcome_blockAction_walk hf, hs, walkMove]

/-- Settles O42: the block does not move, START is ignored, and the host's other acts write none of these registers. -/
theorem errorOnlyLeftByReset : Obligations.ErrorOnlyLeftByReset := by
  intro s t h he hstep
  have hs := h.err_iff.mp he
  rcases step_cases hstep with ⟨-, a, rfl⟩ | ⟨-, -, hb⟩ | ⟨-, rest, -, hb⟩ | ⟨-, i, rest, r', -, rfl⟩ |
    ⟨-, reg, v, rest, c, -, -, -, rfl⟩ | ⟨-, v, rest, -, -, hnone, -⟩ | ⟨-, reg, rest, l, -, rfl⟩ |
    ⟨hd, rest, hi, -⟩ | ⟨-, cells, rest, -, -, rfl⟩ | ⟨-, q, rest, -, rfl⟩ | ⟨-, ready, rest, -, rfl⟩ |
    ⟨-, ready, rest, -, rfl⟩
  case inr.inl =>
    obtain rfl := Host.Outcome.next.inj ((h.blockAction_error hs).symm.trans hb)
    exact .inr ⟨rfl, rfl, rfl, rfl, hs, rfl, rfl, rfl, rfl, rfl, rfl⟩
  case inr.inr.inl =>
    have hafter : Consistent (s.afterInput rest) := h.environment _ _ _ _ _ rest
    obtain rfl := Host.Outcome.next.inj ((hafter.blockAction_error hs).symm.trans hb)
    exact .inr ⟨rfl, rfl, rfl, rfl, hs, rfl, rfl, rfl, rfl, rfl, rfl⟩
  case inr.inr.inr.inr.inr.inl => exact absurd (hnone.symm.trans he) Bool.false_ne_true
  case inr.inr.inr.inr.inr.inr.inr.inl => exact .inl ⟨rest, hd, hi⟩
  all_goals exact .inr ⟨rfl, rfl, rfl, rfl, hs, rfl, rfl, rfl, rfl, rfl, rfl⟩

end Sys2Proof.Machine
end

section
/-! SUPPORT and PROOFS. Reset and hazards (spec/70_reset_and_hazards.md R300 to R305): the configuration lock, that time
does not matter, and that a party which is not ready holds the block. -/

namespace Sys2Proof.Machine

/-! ## The configuration lock (R300) -/

/-- Settles O45: BUSY locks each of the five registers. -/
theorem configurationLockedWhileBusy : Obligations.ConfigurationLockedWhileBusy := by
  intro s reg v rest h hreg hbusy
  have hbusy' : (s.afterInput rest).status.busy = true := hbusy
  rw [step_write h, hostWrite_config _ v hreg, writeConfig_locked _ hbusy']
  rfl

/-! ## A move does not look at what the environment does later (R305; log entry 2) -/

/-- The outcome with these inputs left pending in its next state. -/
def leaveInputs (rest : List Input) : Host.Outcome State Fault Refusal → Host.Outcome State Fault Refusal
  | .next t => .next (t.afterInput rest)
  | .fault f => .fault f
  | .refused r => .refused r

/-- The operation neither reads the pending inputs nor changes them. -/
def IgnoresInputs (move : State → State) : Prop :=
  ∀ (s : State) (rest : List Input), move (s.afterInput rest) = (move s).afterInput rest

theorem IgnoresInputs.next {move : State → State} (h : IgnoresInputs move) (s : State) (rest : List Input) :
    .next (move (s.afterInput rest)) = leaveInputs rest (.next (move s)) :=
  congrArg Host.Outcome.next (h s rest)

theorem ignoresInputs_finishPass : IgnoresInputs finishPass := by
  intro s rest
  by_cases h : s.tbl = 0
  · rw [finishPass_first h, finishPass_first (s := s.afterInput rest) h]; rfl
  · rw [finishPass_second h, finishPass_second (s := s.afterInput rest) h]; rfl

theorem ignoresInputs_releaseWalker (item : StreamItem) : IgnoresInputs (releaseWalker item) := by
  cases item with
  | entry e => exact fun _ _ => rfl
  | endOfPass t => exact ignoresInputs_finishPass

theorem ignoresInputs_coalesceItem (item : StreamItem) : IgnoresInputs (coalesceItem item) := by
  intro s rest
  cases hv : s.cur.valid with
  | false => cases item with
    | entry e => rw [coalesceItem_first hv, coalesceItem_first (s := s.afterInput rest) hv]; rfl
    | endOfPass t =>
      rw [coalesceItem_endEmpty hv, coalesceItem_endEmpty (s := s.afterInput rest) hv]
      exact ignoresInputs_finishPass { s with cur := s.cur.emptied } rest
  | true => cases item with
    | entry e => cases hx : s.cur.extendedBy e with
      | true => rw [coalesceItem_extend hx, coalesceItem_extend (s := s.afterInput rest) hx]; rfl
      | false => rw [coalesceItem_flush hx hv, coalesceItem_flush (s := s.afterInput rest) hx hv]; rfl
    | endOfPass t => rw [coalesceItem_endFlush hv, coalesceItem_endFlush (s := s.afterInput rest) hv]; rfl

theorem ignoresInputs_takeItem (item : StreamItem) : IgnoresInputs (takeItem item) := by
  intro s rest
  cases h : s.coalescer with
  | true =>
    rw [takeItem_present item h, takeItem_present (s := s.afterInput rest) item h]
    exact ignoresInputs_coalesceItem item { s with entKind := .none, items := s.items ++ [item] } rest
  | false =>
    rw [takeItem_absent item h, takeItem_absent (s := s.afterInput rest) item h]
    exact ignoresInputs_releaseWalker item { s with entKind := .none, items := s.items ++ [item] } rest

theorem ignoresInputs_finishFlush (item : StreamItem) (c : CacheLabel) (p : AccessLabel) (x : Bool) :
    IgnoresInputs (finishFlush item c p x) := by
  intro s rest
  cases item with
  | entry e => rfl
  | endOfPass t =>
    exact ignoresInputs_finishPass
      { s with ranges := s.ranges ++ [s.cur.merged c p x], flush := .idle, cur := s.cur.emptied } rest

theorem ignoresInputs_startPass : IgnoresInputs startPass := by
  intro s rest
  by_cases h : s.snap.root s.tbl = 0
  · rw [startPass_absent h, startPass_absent (s := s.afterInput rest) h]; rfl
  · rw [startPass_present h, startPass_present (s := s.afterInput rest) h]; rfl

theorem ignoresInputs_routeGranule : IgnoresInputs routeGranule := by
  intro s rest
  by_cases h : route s.va = s.tbl
  · rw [routeGranule_in h, routeGranule_in (s := s.afterInput rest) h]; rfl
  · rw [routeGranule_out h, routeGranule_out (s := s.afterInput rest) h]; rfl

theorem ignoresInputs_fetchL1 : IgnoresInputs fetchL1 := by
  intro s rest
  cases h : fetchWord s (l1Addr s.tbl (s.snap.root s.tbl) (va32 s.va)) with
  | some w => rw [fetchL1_inside h, fetchL1_inside (s := s.afterInput rest) h]; rfl
  | none => rw [fetchL1_outside h, fetchL1_outside (s := s.afterInput rest) h]; rfl

theorem ignoresInputs_fetchL2 : IgnoresInputs fetchL2 := by
  intro s rest
  cases h : fetchWord s (l2AddrNow s) with
  | some w => rw [fetchL2_inside h, fetchL2_inside (s := s.afterInput rest) h]; rfl
  | none => rw [fetchL2_outside h, fetchL2_outside (s := s.afterInput rest) h]; rfl

theorem ignoresInputs_advance : IgnoresInputs advance := by
  intro s rest
  by_cases h : s.va + granule = scanEnd
  · rw [advance_end h, advance_end (s := s.afterInput rest) h]
    simp only [State.afterInput, enterPassEnd]
  · rw [advance_on h, advance_on (s := s.afterInput rest) h]
    simp only [State.afterInput]

theorem ignoresInputs_whenReady (ready : Bool) {move : State → State} (h : IgnoresInputs move) :
    IgnoresInputs (whenReady ready move) := by
  cases ready
  · exact fun _ _ => rfl
  · exact h

theorem ignoresInputs_deliverAccess (p : AccessLabel) : IgnoresInputs (deliverAccess p) := by
  intro s rest
  simp only [deliverAccess, afterInput_direct, afterInput_flush]
  split <;> rfl

theorem ignoresInputs_failAccess (v : BitVec 3) : IgnoresInputs (failAccess v) := by
  intro s rest
  simp only [failAccess, afterInput_direct, afterInput_flush]
  split <;> rfl

theorem ignoresInputs_deliverCacheAttr (c : CacheLabel) : IgnoresInputs (deliverCacheAttr c) := by
  intro s rest
  simp only [deliverCacheAttr, afterInput_direct, afterInput_flush]
  split <;> rfl

theorem ignoresInputs_failCacheAttr (t : BitVec 5) : IgnoresInputs (failCacheAttr t) := by
  intro s rest
  simp only [failCacheAttr, afterInput_direct, afterInput_flush]
  split <;> rfl

theorem ignoresInputs_deliverExecuteNever (x : Bool) : IgnoresInputs (deliverExecuteNever x) := by
  intro s rest
  simp only [deliverExecuteNever, afterInput_direct, afterInput_flush]
  split <;> rfl

theorem exec_decodeL1_afterInput (d : Word) (s : State) (rest : List Input) :
    exec (decodeL1 d) (s.afterInput rest) = leaveInputs rest (exec (decodeL1 d) s) := by
  simp only [exec_decodeL1]
  split_ifs <;> rfl

theorem exec_decodeL2_afterInput (d : Word) (s : State) (rest : List Input) :
    exec (decodeL2 d) (s.afterInput rest) = leaveInputs rest (exec (decodeL2 d) s) := by
  simp only [exec_decodeL2]
  split_ifs <;> rfl

theorem exec_decodeTEXCB5_afterInput (t : BitVec 5) (s : State) (rest : List Input) :
    exec (decodeTEXCB5 t) (s.afterInput rest) = leaveInputs rest (exec (decodeTEXCB5 t) s) := by
  simp only [exec_decodeTEXCB5]
  cases BigStep.decodeTexcb t with
  | some c => exact (ignoresInputs_deliverCacheAttr c).next s rest
  | none => exact (ignoresInputs_failCacheAttr t).next s rest

theorem exec_decodeAP3_afterInput (v : BitVec 3) (s : State) (rest : List Input) :
    exec (decodeAP3 v) (s.afterInput rest) = leaveInputs rest (exec (decodeAP3 v) s) := by
  simp only [exec_decodeAP3]
  cases BigStep.decodeAp v with
  | some p => exact (ignoresInputs_deliverAccess p).next s rest
  | none => exact (ignoresInputs_failAccess v).next s rest

theorem exec_decodeXN1_afterInput (v : BitVec 1) (s : State) (rest : List Input) :
    exec (decodeXN1 v) (s.afterInput rest) = leaveInputs rest (exec (decodeXN1 v) s) := by
  simp only [exec_decodeXN1]
  exact (ignoresInputs_deliverExecuteNever _).next s rest

theorem offerStep_afterInput (s : State) (rest : List Input) :
    offerStep (s.afterInput rest) = leaveInputs rest (offerStep s) := by
  cases h : offered s with
  | some item =>
    rw [offerStep_some h, offerStep_some (s := s.afterInput rest) h]
    exact (ignoresInputs_whenReady _ (ignoresInputs_takeItem item)).next s rest
  | none =>
    have h' : offered (s.afterInput rest) = none := h
    simp only [offerStep, h, h', leaveInputs]

/-- The walk state machine's move, in each of its states (R151). -/
theorem walkMove_afterInput (s : State) (rest : List Input) (w : WalkState) :
    walkMove (s.afterInput rest) w = leaveInputs rest (walkMove s w) := by
  cases w with
  | idle | done | error => rfl
  | passStart => exact ignoresInputs_startPass.next s rest
  | route => exact ignoresInputs_routeGranule.next s rest
  | l1Fetch => exact (ignoresInputs_whenReady _ ignoresInputs_fetchL1).next s rest
  | l1Decode => exact exec_decodeL1_afterInput s.l1d s rest
  | l2Fetch => exact (ignoresInputs_whenReady _ ignoresInputs_fetchL2).next s rest
  | l2Decode => exact exec_decodeL2_afterInput s.l2d s rest
  | emit | passEnd => exact offerStep_afterInput s rest
  | advance => exact ignoresInputs_advance.next s rest

/-- The block's move is the same whatever inputs are pending, and leaves them pending. -/
theorem blockAction_afterInput (s : State) (rest : List Input) :
    (blockAction (s.afterInput rest)).outcome = leaveInputs rest (blockAction s).outcome := by
  have hflush := afterInput_flush s rest
  cases hf : s.flush with
  | idle =>
    rw [outcome_blockAction_walk hf, outcome_blockAction_walk (hflush.trans hf)]
    exact walkMove_afterInput s rest s.st
  | texcb item =>
    rw [blockAction_texcb hf, blockAction_texcb (hflush.trans hf)]
    exact exec_decodeTEXCB5_afterInput s.cur.texcb s rest
  | ap item c =>
    rw [blockAction_ap hf, blockAction_ap (hflush.trans hf)]
    exact exec_decodeAP3_afterInput s.cur.ap s rest
  | xn item c p =>
    rw [blockAction_xn hf, blockAction_xn (hflush.trans hf)]
    exact exec_decodeXN1_afterInput s.cur.xn s rest
  | emit item c p x =>
    rw [blockAction_emit hf, blockAction_emit (hflush.trans hf)]
    exact (ignoresInputs_whenReady _ (ignoresInputs_finishFlush item c p x)).next s rest

section
variable {s : State} {rest : List Input}

theorem step_hold (h : s.hostActs .hold rest) : step s = .next (s.afterInput rest) := by
  rw [step_eq_outcome, nextAction_input h.1 h.2, Action.outcome_other]

theorem step_proceed (h : s.hostActs .proceed rest) :
    step s = leaveInputs rest (step { s with inputs := [] }) := by
  rw [step_eq_outcome, nextAction_input h.1 h.2, step_quiet (s := { s with inputs := [] }) ⟨h.1, rfl⟩]
  exact blockAction_afterInput { s with inputs := [] } rest

end

/-- Settles O52: `hold` uses itself up, and the block's move commutes with the later inputs. -/
theorem timeDoesNotMatter : Obligations.TimeDoesNotMatter := by
  refine fun s rest => ⟨step_hold, fun h => ?_⟩
  rw [step_proceed h]
  cases step { s with inputs := [] } <;> rfl

/-! ## Waiting for a party outside (R303; U10, U11; log entry 24) -/

section
variable {s : State} {ready : Bool} {rest : List Input}

theorem step_consumer (h : s.hostActs (.consumer ready) rest) :
    step s = .next { s with consumerReady := ready, inputs := rest } := by
  rw [step_eq_outcome, nextAction_input h.1 h.2]
  rfl

theorem step_memory (h : s.hostActs (.memory ready) rest) :
    step s = .next { s with memoryReady := ready, inputs := rest } := by
  rw [step_eq_outcome, nextAction_input h.1 h.2]
  rfl

end

theorem step_stalled {s : State} (hq : s.quiet) (h : s.stalled) : step s = .next s := by
  rw [step_quiet hq, blockAction_stalled h, Action.outcome_other]

/-- A consumer that stops taking lifts no hold. -/
theorem State.stalled.consumerStops {s : State} (h : s.stalled) : { s with consumerReady := false }.stalled := by
  rcases h with ⟨-, hitem⟩ | ⟨-, hrange⟩ | hfetch
  · exact .inl ⟨rfl, hitem⟩
  · exact .inr (.inl ⟨rfl, hrange⟩)
  · exact .inr (.inr hfetch)

/-- A memory port that stops answering lifts no hold. -/
theorem State.stalled.memoryStops {s : State} (h : s.stalled) : { s with memoryReady := false }.stalled := by
  rcases h with hitem | hrange | ⟨-, hfetch⟩
  · exact .inl hitem
  · exact .inr (.inl hrange)
  · exact .inr (.inr ⟨rfl, hfetch⟩)

/-- A step of a busy block that waits is reset, or leaves the walk, the status and what was delivered alone and the
block waiting, unless a party becomes ready. -/
theorem stalled_of_step {s t : State} (h : s.stalled) (hbusy : s.status.busy = true) (hstep : step s = .next t) :
    (∃ rest, s.hostActs .reset rest) ∨
    (t.status = s.status ∧ t.st = s.st ∧ t.tbl = s.tbl ∧ t.va = s.va ∧ t.entKind = s.entKind ∧ t.ent = s.ent ∧
      t.flush = s.flush ∧ t.cur = s.cur ∧ t.items = s.items ∧ t.ranges = s.ranges ∧
      (t.stalled ∨ ∃ rest, s.hostActs (.consumer true) rest ∨ s.hostActs (.memory true) rest)) := by
  rcases step_cases hstep with ⟨-, a, rfl⟩ | ⟨-, -, hb⟩ | ⟨-, rest, -, hb⟩ | ⟨-, i, rest, r', -, rfl⟩ |
    ⟨-, reg, v, rest, c, -, -, -, rfl⟩ | ⟨-, v, rest, -, hidle, -, -⟩ | ⟨-, reg, rest, l, -, rfl⟩ |
    ⟨hd, rest, hi, -⟩ | ⟨-, cells, rest, -, -, rfl⟩ | ⟨-, q, rest, -, rfl⟩ | ⟨hd, ready, rest, hi, rfl⟩ |
    ⟨hd, ready, rest, hi, rfl⟩
  case inr.inl =>
    rw [blockAction_stalled h] at hb
    obtain rfl := Host.Outcome.next.inj hb
    exact .inr ⟨rfl, rfl, rfl, rfl, rfl, rfl, rfl, rfl, rfl, rfl, .inl h⟩
  case inr.inr.inl =>
    rw [blockAction_afterInput, blockAction_stalled h] at hb
    obtain rfl := Host.Outcome.next.inj hb
    exact .inr ⟨rfl, rfl, rfl, rfl, rfl, rfl, rfl, rfl, rfl, rfl, .inl h⟩
  case inr.inr.inr.inr.inr.inl => exact absurd (hidle.symm.trans hbusy) Bool.false_ne_true
  case inr.inr.inr.inr.inr.inr.inr.inl => exact .inl ⟨rest, hd, hi⟩
  case inr.inr.inr.inr.inr.inr.inr.inr.inr.inr.inl =>
    refine .inr ⟨rfl, rfl, rfl, rfl, rfl, rfl, rfl, rfl, rfl, rfl, ?_⟩
    cases ready with
    | false => exact .inl h.consumerStops
    | true => exact .inr ⟨rest, .inl ⟨hd, hi⟩⟩
  case inr.inr.inr.inr.inr.inr.inr.inr.inr.inr.inr =>
    refine .inr ⟨rfl, rfl, rfl, rfl, rfl, rfl, rfl, rfl, rfl, rfl, ?_⟩
    cases ready with
    | false => exact .inl h.memoryStops
    | true => exact .inr ⟨rest, .inr ⟨hd, hi⟩⟩
  all_goals exact .inr ⟨rfl, rfl, rfl, rfl, rfl, rfl, rfl, rfl, rfl, rfl, .inl h⟩

/-- Settles O53: the block's move is none while it waits, and no input but readiness or reset ends the wait. -/
theorem stallHolds : Obligations.StallHolds :=
  ⟨fun _ hq h => run_stays (step_stalled hq h), fun _ _ => stalled_of_step,
    fun _ _ _ => ⟨step_consumer, step_memory⟩⟩

end Sys2Proof.Machine
end

section
/-! PROOFS. The host's actions that the spec gives no meaning (93_implementation_defined.md U9, U15). -/

namespace Sys2Proof.Machine

/-- The registers end at number 9 (R21). -/
theorem readReg_beyond (s : State) {reg : Nat} (h : 9 < reg) : readReg s reg = none := by
  obtain ⟨k, rfl⟩ := Nat.exists_eq_add_of_le' h
  rfl

theorem hostRead_beyond (s : State) {reg : Nat} (h : 9 < reg) : hostRead reg s = .refused (.noSuchRegister reg) := by
  rw [hostRead, readReg_beyond s h]

theorem hostWrite_beyond (s : State) {reg : Nat} (v : Word) (h : 9 < reg) :
    hostWrite reg v s = .other (.refused (.noSuchRegister reg)) := by
  obtain ⟨k, rfl⟩ := Nat.exists_eq_add_of_le' h
  rfl

theorem hostLoad_busy {s : State} (cells : List Host.Cell) (h : s.status.busy = true) :
    hostLoad cells s = .refused .imageChangedDuringWalk :=
  if_pos h

/-- Settles O47, a clause per refused action: a write and a read beyond register 9, and an image change while BUSY. -/
theorem meaninglessHostActionsRefused : Obligations.MeaninglessHostActionsRefused := by
  refine fun s reg v cells rest => ⟨fun h hreg => ?_, fun h hreg => ?_, fun h hbusy => ?_⟩
  · rw [step_write h, hostWrite_beyond _ v hreg, Action.outcome_other]
  · rw [step_read h, hostRead_beyond _ hreg]
  · rw [step_loadImage h, hostLoad_busy cells (by exact hbusy)]

end Sys2Proof.Machine
end
